-- ==== Sys2Proof/Word.lean ====
section
/-! DEFINITION. The words and names of the DDCMP link engine: bytes, 16-bit CRC words, and the enumerations and
records the spec names (00_scope.md R9, R10, R11, R13; 10_state.md; 44_queues.md; 60_exceptions.md). Types only: every
function over them stands in Decode.lean or under Machine/. -/

namespace Sys2Proof

/-- One byte, 8 bits, value 0..255 (R10). -/
abbrev Byte := BitVec 8

/-- The width of both CRC fields (R110). -/
abbrev Word16 := BitVec 16

/-- A handle: the index 0..W-1 of a buffer descriptor (R44). -/
abbrev Handle := Nat

/-- The five values of `state` (R22). -/
inductive LinkState where
  | halt | iStart | aStart | run | maintenance
  deriving DecidableEq, Repr, Inhabited

/-- The eight event kinds (R211), listed in the priority order of R213, highest first. -/
inductive EventKind where
  | userHalt | userMaintenanceMode | userStartup | lineStatusChange
  | timerExpired | transmitDone | packetReceived | hostQueueChange
  deriving DecidableEq, Repr, Inhabited

/-- The pending event mask (R37): one bit for each event kind. -/
structure EventMask where
  userHalt : Bool
  userMaintenanceMode : Bool
  userStartup : Bool
  lineStatusChange : Bool
  timerExpired : Bool
  transmitDone : Bool
  packetReceived : Bool
  hostQueueChange : Bool
  deriving DecidableEq, Repr, Inhabited

/-- The seven frame kinds as `parse` classifies them (R140). -/
inductive PacketClass where
  | data | ack | nak | rep | strt | stack | maint
  deriving DecidableEq, Repr, Inhabited

/-- A parsed packet (R140). -/
structure Packet where
  cls : PacketClass
  count : BitVec 14
  flags : BitVec 2
  resp : Byte
  num : Byte
  subfield : BitVec 6
  addr : Byte
  payload : List Byte
  deriving DecidableEq, Repr, Inhabited

/-- The causes of `MessageError` (R140, R341). -/
inductive MessageError where
  | tooShort | badType | headerCRC | badSubtype | dataCRC
  deriving DecidableEq, Repr, Inhabited

/-- What `parse` returns (R140). -/
inductive ParseResult where
  | packet (p : Packet)
  | messageError (cause : MessageError)
  deriving DecidableEq, Repr, Inhabited

/-- What `rx_pkt` may hold: a packet, or the eighth class `Error` with its NAK reason (R39, R148). -/
inductive RxPkt where
  | packet (p : Packet)
  | error (reason : BitVec 6)
  deriving DecidableEq, Repr, Inhabited

/-- The kind tag of a buffer descriptor (R44). -/
inductive BufferKind where
  | receive | transmitData | transmitControl
  deriving DecidableEq, Repr, Inhabited

/-- The kind of a transmit item (R40). -/
inductive TxKind where
  | control | data | maint
  deriving DecidableEq, Repr, Inhabited

/-- The event codes of completion records (R352); symbolic, the source gives no numbers (N6, U24). -/
inductive EventCode where
  | rxBufferComplete | maintBufferComplete | txBufferComplete | rxBufferKilled | txBufferKilled
  | disconnect | startReceived | maintenanceReceived | fatal
  deriving DecidableEq, Repr, Inhabited

/-- A buffer descriptor (R44). -/
structure Descriptor where
  kind : BufferKind
  address : Nat
  length : BitVec 14
  actual : BitVec 14
  eom : Bool
  seq : Byte
  eventCode : EventCode
  deriving DecidableEq, Repr, Inhabited

/-- A completion record (R180): a buffer record has a handle, an event record has none. -/
structure Completion where
  buffer : Option Handle
  actualLength : BitVec 14
  code : EventCode
  deriving DecidableEq, Repr, Inhabited

/-- A transmit item (R40): a built frame staged for the transport. -/
structure TxItem where
  bytes : List Byte
  kind : TxKind
  num : Byte
  desc : Option Handle
  deriving DecidableEq, Repr, Inhabited

/-- The five queues of a link (R45). -/
inductive QueueName where
  | free | receive | transmit | ackWait | completion
  deriving DecidableEq, Repr, Inhabited

/-- The four queues whose elements are descriptor handles (R170). -/
inductive HandleQueue where
  | free | receive | transmit | ackWait
  deriving DecidableEq, Repr, Inhabited

/-- A queue together with an element of that queue's type: the operands of `enqueue` and `push_front` (R172, R173). -/
inductive QueueArg where
  | handleIn (q : HandleQueue) (h : Handle)
  | recordIn (r : Completion)
  deriving DecidableEq, Repr, Inhabited

/-- What `dequeue` and `head` answer (R174, R175). -/
inductive QueueElem where
  | handle (h : Handle)
  | record (r : Completion)
  deriving DecidableEq, Repr, Inhabited

/-- The two operand forms of the sequence increment: `inc(v)` and `add(v, k)` (R163). -/
inductive IncForm where
  | inc (v : Byte)
  | add (v : Byte) (k : Nat)
  deriving DecidableEq, Repr, Inhabited

/-- The two causes of the fatal condition (R346). -/
inductive FatalCause where
  | poolExhausted | missingRetransmitBuffer
  deriving DecidableEq, Repr, Inhabited

/-- What the transport does with one `send` (R313, R314, R317, R378): refuse it, accept it and report completion later as
a step of its own, accept it and report completion before `send` returns, or accept it and, before `send` returns, deliver
frames by `on_receive` and then, where `completes` says so, report completion. -/
inductive SendAnswer where
  | refused | acceptedLater | acceptedNow
  | acceptedReceiving (frames : List (List Byte)) (completes : Bool)
  deriving DecidableEq, Repr, Inhabited

/-- One choice of the test-only corruption policy (R322). `flip` names the positions of the bits to invert: position
`8*i + j` is bit `j` of byte `i`. -/
inductive Draw where
  | pass | drop | flip (bits : List Nat)
  deriving DecidableEq, Repr, Inhabited

/-- The fields of a control frame's header but for the type marker and the sub-type (R90). -/
structure ControlHeader where
  flags : BitVec 2
  subfield : BitVec 6
  resp : Byte
  num : Byte
  addr : Byte
  hcrc : Word16
  deriving DecidableEq, Repr, Inhabited

/-- The fields of a data or maintenance frame's header but for the type marker (R88, R98). -/
structure DataHeader where
  flags : BitVec 2
  count : BitVec 14
  resp : Byte
  num : Byte
  addr : Byte
  hcrc : Word16
  deriving DecidableEq, Repr, Inhabited

end Sys2Proof
end

