-- ==== Sys2Proof/Syntax.lean ====
section
/-! DEFINITION. The instructions of the DDCMP link engine: one constructor for each row of spec/opcode_table.json, in
the table's order. "Instruction" is read as 00_scope.md R3 reads it: a wire frame kind, an operation of a sub-block, an
action, or an entry of the dispatch table. -/

namespace Sys2Proof

/-- The instructions. A frame kind carries every field of its header, the header CRC as it stands on the wire
included, and for DATA and MAINT the payload and the data CRC (30_encoding.md R81, R88, R90, R98). -/
inductive Instr where
  -- Wire frame kinds: the engine receives the frame (R80, R103, R316).
  /-- `DATA` (R88). -/
  | data (h : DataHeader) (payload : List Byte) (dcrc : Word16)
  /-- `MAINT` (R98). -/
  | maint (h : DataHeader) (payload : List Byte) (dcrc : Word16)
  /-- `ACK` (R93). -/
  | ack (h : ControlHeader)
  /-- `NAK` (R94). -/
  | nak (h : ControlHeader)
  /-- `REP` (R95). -/
  | rep (h : ControlHeader)
  /-- `STRT` (R96). -/
  | strt (h : ControlHeader)
  /-- `STACK` (R97). -/
  | stack (h : ControlHeader)
  -- Packet codec (R110 to R150).
  /-- `crc16` (R110). -/
  | crc16 (seed : Word16) (s : List Byte)
  /-- `header` (R120). -/
  | header (b0 b1 b2 b3 b4 : Byte)
  /-- `trailer` (R129). -/
  | trailer (p : List Byte)
  /-- `build_data` (R121). -/
  | buildData (buf : List Byte) (len : BitVec 14) (flags : BitVec 2) (num resp : Byte)
  /-- `build_ack` (R122). -/
  | buildAck (resp : Byte) (flags : BitVec 2)
  /-- `build_nak` (R123). -/
  | buildNak (reason : BitVec 6) (resp : Byte) (flags : BitVec 2)
  /-- `build_rep` (R124). -/
  | buildRep (num : Byte) (flags : BitVec 2)
  /-- `build_start` (R125). -/
  | buildStart (flags : BitVec 2)
  /-- `build_start_ack` (R126). -/
  | buildStartAck (flags : BitVec 2)
  /-- `build_maintenance` (R127). -/
  | buildMaintenance (len : BitVec 14)
  /-- `parse` (R141). -/
  | parse (bytes : List Byte)
  -- Sequence arithmetic (R160 to R164).
  /-- `seq_cmp` (R160). -/
  | seqCmp (a b : Byte) (w : Nat)
  /-- `inc` (R163). -/
  | inc (f : IncForm)
  -- Queues and the descriptor pool (R170 to R185).
  /-- `enqueue` (R172). -/
  | enqueue (x : QueueArg)
  /-- `push_front` (R173). -/
  | pushFront (x : QueueArg)
  /-- `dequeue` (R174). -/
  | dequeue (q : QueueName)
  /-- `head` (R175). -/
  | head (q : QueueName)
  /-- `count` (R176). -/
  | count (q : QueueName)
  /-- `find_seq` (R185). -/
  | findSeq (s : Byte)
  /-- `alloc` (R177). -/
  | alloc (k : BufferKind)
  /-- `release` (R178). -/
  | release (h : Handle)
  /-- `RequeueAckWait` (R184). -/
  | requeueAckWait
  /-- `notify` (R181). -/
  | notify (code : EventCode)
  -- The reply timer (R200 to R205).
  /-- `StartTimer` (R200). -/
  | startTimer
  /-- `StopTimer` (R201). -/
  | stopTimer
  /-- `tick` (R202). -/
  | tick
  -- Host, transport and transmitter interfaces (R300 to R324), and reset (R370).
  /-- `assign_receive_buffer` (R301). -/
  | assignReceiveBuffer (address length : Nat)
  /-- `enqueue_transmit_buffer` (R302). -/
  | enqueueTransmitBuffer (address length : Nat) (endOfMessage : Bool)
  /-- `kill_receive_buffers` (R305). -/
  | killReceiveBuffers (enable : Bool)
  /-- `kill_transmit_buffers` (R306). -/
  | killTransmitBuffers (enable : Bool)
  /-- `set_line_enabled` (R307). -/
  | setLineEnabled (enabled : Bool)
  /-- `user_startup` (R308). -/
  | userStartup
  /-- `user_halt` (R308). -/
  | userHalt
  /-- `user_maintenance` (R308). -/
  | userMaintenance
  /-- `host_pickup` (R309). -/
  | hostPickup
  /-- `tx_send` (R310). -/
  | txSend (item : TxItem)
  /-- `tx_kick` (R311). -/
  | txKick
  /-- `transmit_complete` (R312). -/
  | transmitComplete
  /-- `transport.send` (R314). -/
  | transportSend (bytes : List Byte)
  /-- `on_receive` (R316). -/
  | onReceive (bytes : List Byte)
  /-- `on_transmit_complete` (R317). -/
  | onTransmitComplete
  /-- `on_line_status_change` (R318). -/
  | onLineStatusChange (connected : Bool)
  /-- `reset` (R370). -/
  | reset
  -- The dispatcher (R215, R216).
  /-- `Dispatch` (R216). -/
  | dispatch (e : EventKind)
  -- Actions (R230 to R256). An action that reads the scan's packet takes it as its operand: R218 runs `a(ev, pkt)`.
  /-- `SendControl` (R231). -/
  | sendControl (bytes : List Byte)
  /-- `ResetVariables` (R232). -/
  | resetVariables
  /-- `SetSACK` (R233). -/
  | setSACK
  /-- `SetSNAK` (R234). -/
  | setSNAK (r : BitVec 6)
  /-- `ClearSNAK` (R235). -/
  | clearSNAK
  /-- `SetSREP` (R236). -/
  | setSREP
  /-- `ClearSREP` (R236). -/
  | clearSREP
  /-- `ClearSACK` (R237). -/
  | clearSACK
  /-- `SetSNAKFromError` (R238). -/
  | setSNAKFromError (reason : BitVec 6)
  /-- `SendStrt` (R239). -/
  | sendStrt
  /-- `SendStack` (R240). -/
  | sendStack
  /-- `CompleteAcked` (R241). -/
  | completeAcked (pkt : Packet)
  /-- `BumpT` (R242). -/
  | bumpT
  /-- `SetTToAplus1` (R242). -/
  | setTToAplus1
  /-- `StopTimerIfAGeX` (R243). -/
  | stopTimerIfAGeX
  /-- `GiveBufferToUser` (R244). -/
  | giveBufferToUser (pkt : Packet)
  /-- `SendNewData` (R245). -/
  | sendNewData
  /-- `RetransmitT` (R246). -/
  | retransmitT
  /-- `SendAck` (R247). -/
  | sendAck
  /-- `SendNak` (R248). -/
  | sendNak
  /-- `SendRep` (R249). -/
  | sendRep
  /-- `NakMissing` (R250). -/
  | nakMissing (pkt : Packet)
  /-- `SetXToSentNum` (R251). -/
  | setXToSentNum
  /-- `StartOrStopTimerByAX` (R251). -/
  | startOrStopTimerByAX
  /-- `NotifyDisconnect` (R252). -/
  | notifyDisconnect
  /-- `NotifyStartReceived` (R252). -/
  | notifyStartReceived
  /-- `NotifyMaintReceived` (R252). -/
  | notifyMaintReceived
  /-- `ClearStartReceived` (R253). -/
  | clearStartReceived
  /-- `DeliverMaintToHost` (R255). -/
  | deliverMaintToHost (pkt : Packet)
  /-- `SendMaintMessage` (R256). -/
  | sendMaintMessage
  -- The dispatch table (R260 to R289).
  /-- `DR00` (R260). -/
  | dr00
  /-- `DR01` (R261). -/
  | dr01
  /-- `DR02` (R262). -/
  | dr02
  /-- `DR03` (R263). -/
  | dr03
  /-- `DR04` (R264). -/
  | dr04
  /-- `DR05` (R265). -/
  | dr05
  /-- `DR06` (R266). -/
  | dr06
  /-- `DR07` (R267). -/
  | dr07
  /-- `DR08` (R268). -/
  | dr08
  /-- `DR09` (R269). -/
  | dr09
  /-- `DR10` (R270). -/
  | dr10
  /-- `DR11` (R271). -/
  | dr11
  /-- `DR12` (R272). -/
  | dr12
  /-- `DR13` (R273). -/
  | dr13
  /-- `DR14` (R274). -/
  | dr14
  /-- `DR15` (R275). -/
  | dr15
  /-- `DR16` (R276). -/
  | dr16
  /-- `DR17` (R277). -/
  | dr17
  /-- `DR18` (R278). -/
  | dr18
  /-- `DR19` (R279). -/
  | dr19
  /-- `DR20` (R280). -/
  | dr20
  /-- `DR21` (R281). -/
  | dr21
  /-- `DR22` (R282). -/
  | dr22
  /-- `DR23` (R283). -/
  | dr23
  /-- `DR24` (R284). -/
  | dr24
  /-- `DR25` (R285). -/
  | dr25
  /-- `DR26` (R286). -/
  | dr26
  /-- `DR27` (R287). -/
  | dr27
  /-- `DR28` (R288). -/
  | dr28
  /-- `DR_default` (R289). -/
  | drDefault
  deriving DecidableEq, Repr

end Sys2Proof
end

