-- ==== Sys2Proof/Decode.lean ====
section
/-! DEFINITION. The decoder and the encoder of wire frames (30_encoding.md), the wire constants (00_scope.md R8, R9),
and the field helpers both share. Decoding is the two-level map of R103 with the frame lengths of R99; whether the CRC
fields are right is not a matter of decoding: they are fields of the instruction, and receiving it checks them
(42_codec_parse.md R141; log 8). -/

namespace Sys2Proof

/-- `SOH`, the type marker of a data frame (R9, R82). -/
def typeSOH : Byte := 0x81

/-- `ENQ`, the type marker of a control frame (R9, R82). -/
def typeENQ : Byte := 0x05

/-- `DLE`, the type marker of a maintenance frame (R9, R82). -/
def typeDLE : Byte := 0x90

/-- Control sub-type ACK (R9, R91). -/
def ctlAck : Byte := 1

/-- Control sub-type NAK (R9, R91). -/
def ctlNak : Byte := 2

/-- Control sub-type REP (R9, R91). -/
def ctlRep : Byte := 3

/-- Control sub-type STRT (R9, R91). -/
def ctlStrt : Byte := 6

/-- Control sub-type STACK (R9, R91). -/
def ctlStack : Byte := 7

/-- `ADDR_FILL`, the byte every built frame carries at offset 5 (R8, R86). -/
def addrFill : Byte := 0x01

/-- `MAINT_FLAGS`, the flag bits of a built maintenance frame (R8, R98). -/
def maintFlags : BitVec 2 := 3

/-- Bits 7:0 of a 16-bit word (R63). -/
def lowByte (w : Word16) : Byte := w.extractLsb' 0 8

/-- Bits 15:8 of a 16-bit word (R63). -/
def highByte (w : Word16) : Byte := w.extractLsb' 8 8

/-- A 16-bit word from its stored bytes, low byte first (R63). -/
def wordOf (lo hi : Byte) : Word16 := hi ++ lo

/-- Byte 2 of a header: `(flags << 6) or low6` (R84, R88, R90). -/
def byte2Of (flags : BitVec 2) (low6 : BitVec 6) : Byte := flags ++ low6

/-- The flags of byte 2: bits 7:6, bit 0 QSYNC and bit 1 SELECT (R84, R147). -/
def flagsOf (b2 : Byte) : BitVec 2 := b2.extractLsb' 6 2

/-- Bits 5:0 of byte 2: the sub-field of a control frame, or count bits 13:8 (R83, R92). -/
def low6Of (b2 : Byte) : BitVec 6 := b2.extractLsb' 0 6

/-- Count bits 7:0 (R83). -/
def countLow (c : BitVec 14) : Byte := c.extractLsb' 0 8

/-- Count bits 13:8 (R83). -/
def countHigh (c : BitVec 14) : BitVec 6 := c.extractLsb' 8 6

/-- The 14-bit count from bytes 1 and 2 (R83). -/
def countOf (b1 b2 : Byte) : BitVec 14 := low6Of b2 ++ b1

/-- Why a byte string is no instruction. Each is a rejection by name: such bytes, delivered by the transport, are still
received (R316), which discards them or reports an error. -/
inductive DecodeError where
  /-- fewer than 8 bytes (R100, R142) -/
  | tooShort
  /-- byte 0 is none of 0x81, 0x05, 0x90 (R100, R143) -/
  | badType
  /-- byte 0 is 0x05 and byte 1 is none of 1, 2, 3, 6, 7 (R100, R145) -/
  | badSubtype
  /-- a data or maintenance frame shorter than `8 + count + 2` bytes (R99, R146) -/
  | truncated
  deriving DecidableEq, Repr

/-- What the decoder answers: an instruction and the bytes after it, or a rejection by name. -/
inductive Decoded where
  | instr (i : Instr) (rest : List Byte)
  | reject (e : DecodeError)
  deriving DecidableEq, Repr

/-- Level 2 of the opcode map: the sub-type of a control frame (R91, R103). -/
def decodeControl (b1 : Byte) (h : ControlHeader) (rest : List Byte) : Decoded :=
  if b1 = ctlAck then .instr (.ack h) rest
  else if b1 = ctlNak then .instr (.nak h) rest
  else if b1 = ctlRep then .instr (.rep h) rest
  else if b1 = ctlStrt then .instr (.strt h) rest
  else if b1 = ctlStack then .instr (.stack h) rest
  else .reject .badSubtype

/-- The part of a data or maintenance frame after its header: `count` payload bytes and the data CRC, low byte first
(R89, R99). -/
def decodeBody (mk : List Byte → Word16 → Instr) (count : Nat) (body : List Byte) : Decoded :=
  if body.length < count + 2 then .reject .truncated
  else
    match body.drop count with
    | c0 :: c1 :: rest => .instr (mk (body.take count) (wordOf c0 c1)) rest
    | _ => .reject .truncated

/-- The decoder: level 1 is byte 0 (R82, R103). Bytes after the frame's computed length are handed back. -/
def decode : List Byte → Decoded
  | b0 :: b1 :: b2 :: b3 :: b4 :: b5 :: b6 :: b7 :: body =>
    if b0 = typeENQ then
      decodeControl b1
        { flags := flagsOf b2, subfield := low6Of b2, resp := b3, num := b4, addr := b5, hcrc := wordOf b6 b7 } body
    else
      let h : DataHeader :=
        { flags := flagsOf b2, count := countOf b1 b2, resp := b3, num := b4, addr := b5, hcrc := wordOf b6 b7 }
      if b0 = typeSOH then decodeBody (Instr.data h) h.count.toNat body
      else if b0 = typeDLE then decodeBody (Instr.maint h) h.count.toNat body
      else .reject .badType
  | _ => .reject .tooShort

/-- The eight header bytes of a control frame (R90). -/
def encodeControl (sub : Byte) (h : ControlHeader) : List Byte :=
  [typeENQ, sub, byte2Of h.flags h.subfield, h.resp, h.num, h.addr, lowByte h.hcrc, highByte h.hcrc]

/-- A data or maintenance frame: header, payload, data CRC low byte first (R88, R89, R98). -/
def encodeData (type : Byte) (h : DataHeader) (payload : List Byte) (dcrc : Word16) : List Byte :=
  [type, countLow h.count, byte2Of h.flags (countHigh h.count), h.resp, h.num, h.addr, lowByte h.hcrc, highByte h.hcrc]
    ++ payload ++ [lowByte dcrc, highByte dcrc]

/-- The encoder: the bytes of a frame, offset 0 first. Only the seven frame kinds have a bit pattern; every other row
of the table is "an operation or table row, not a bit pattern". -/
def encode : Instr → Option (List Byte)
  | .data h payload dcrc => some (encodeData typeSOH h payload dcrc)
  | .maint h payload dcrc => some (encodeData typeDLE h payload dcrc)
  | .ack h => some (encodeControl ctlAck h)
  | .nak h => some (encodeControl ctlNak h)
  | .rep h => some (encodeControl ctlRep h)
  | .strt h => some (encodeControl ctlStrt h)
  | .stack h => some (encodeControl ctlStack h)
  | .crc16 .. | .header .. | .trailer .. | .buildData .. | .buildAck .. | .buildNak .. | .buildRep ..
  | .buildStart .. | .buildStartAck .. | .buildMaintenance .. | .parse .. | .seqCmp .. | .inc .. | .enqueue ..
  | .pushFront .. | .dequeue .. | .head .. | .count .. | .findSeq .. | .alloc .. | .release ..
  | .requeueAckWait | .notify .. | .startTimer | .stopTimer | .tick | .assignReceiveBuffer ..
  | .enqueueTransmitBuffer .. | .killReceiveBuffers .. | .killTransmitBuffers .. | .setLineEnabled ..
  | .userStartup | .userHalt | .userMaintenance | .hostPickup | .txSend .. | .txKick | .transmitComplete
  | .transportSend .. | .onReceive .. | .onTransmitComplete | .onLineStatusChange .. | .reset | .dispatch ..
  | .sendControl .. | .resetVariables | .setSACK | .setSNAK .. | .clearSNAK | .setSREP | .clearSREP
  | .clearSACK | .setSNAKFromError .. | .sendStrt | .sendStack | .completeAcked .. | .bumpT | .setTToAplus1
  | .stopTimerIfAGeX | .giveBufferToUser .. | .sendNewData | .retransmitT | .sendAck | .sendNak | .sendRep
  | .nakMissing .. | .setXToSentNum | .startOrStopTimerByAX | .notifyDisconnect | .notifyStartReceived
  | .notifyMaintReceived | .clearStartReceived | .deliverMaintToHost .. | .sendMaintMessage | .dr00 | .dr01
  | .dr02 | .dr03 | .dr04 | .dr05 | .dr06 | .dr07 | .dr08 | .dr09 | .dr10 | .dr11 | .dr12 | .dr13 | .dr14
  | .dr15 | .dr16 | .dr17 | .dr18 | .dr19 | .dr20 | .dr21 | .dr22 | .dr23 | .dr24 | .dr25 | .dr26 | .dr27
  | .dr28 | .drDefault => none

/-- The header bytes of a table word. The table takes the header as one number with offset 0 as its most significant
byte ("byte 0 = bits 63:56, byte 7 = bits 7:0"; R103). A shorter word is padded with zero bytes (log 7). -/
def headerBytes (nbits w : Nat) : List Byte :=
  let n := nbits / 8
  (List.range 8).map fun k => if k < n then BitVec.ofNat 8 (w >>> (8 * (n - 1 - k))) else 0

/-- The number of bytes a frame with this header has after offset 7 (R99). -/
def bodyLength : List Byte → Nat
  | b0 :: b1 :: b2 :: _ => if b0 = typeSOH ∨ b0 = typeDLE then (countOf b1 b2).toNat + 2 else 0
  | _ => 0

/-- The bytes of a table word: its header, and every bit after it zero, up to the frame's own length. -/
def wordBytes (nbits w : Nat) : List Byte :=
  let h := headerBytes nbits w
  h ++ List.replicate (bodyLength h) 0

/-- The instruction the decoder reads from a table word (log 7). -/
def decodeTableWord (nbits w : Nat) : Option Instr :=
  match decode (wordBytes nbits w) with
  | .instr i _ => some i
  | .reject _ => none

end Sys2Proof
end

