-- ==== Sys2Proof/Config.lean ====
section
/-! DEFINITION. The configuration record of an engine instance (00_scope.md R8, 10_state.md R55) and the free inputs
the spec leaves open (93_implementation_defined.md U10, U11): opaque constants, of which nothing can be proved. -/

namespace Sys2Proof

/-- The OPEN parameters of R8 that R55 puts in the configuration record. Fixed for the life of an instance: no
operation writes it. `NLINKS` is no field: instances share nothing and one instance is modelled (R74, R354). -/
structure Config where
  /-- "protocol queue depth", at least 1 and at most 63 (R8, D2). -/
  qdepth : Nat
  /-- the timer's reload value in ticks, at least 1 (R200). -/
  pktTimeout : Nat
  /-- the test-only corruption probability, 0..999, 0 = off (R320). -/
  corruptPermille : Nat
  /-- the flags argument of ACK, NAK, REP, STRT and STACK (R8). -/
  ctlFlags : BitVec 2
  /-- the flags argument of `build_data` (R8). -/
  dataFlags : BitVec 2
  /-- the reason written in the NAKs of DR16 (R8, R250). -/
  gapNakReason : BitVec 6
  deriving DecidableEq, Repr, Inhabited

/-- `W = 2 * QDEPTH`: the capacity of `free`, the number of descriptors and the comparator's window (R8). -/
def Config.window (c : Config) : Nat := 2 * c.qdepth

/-- The ranges R8 and D2 give the parameters. -/
abbrev Config.InRange (c : Config) : Prop :=
  1 ≤ c.qdepth ∧ c.qdepth ≤ 63 ∧ 1 ≤ c.pktTimeout ∧ c.corruptPermille ≤ 999

/-- The configuration of the spec's own test vectors (95_test_vectors.md section 1).
DESIGN CHOICE (log 1), unsafe: the parameters are OPEN; only `State.reset` uses this value. -/
def Config.atReset : Config :=
  { qdepth := 4, pktTimeout := 3, corruptPermille := 0, ctlFlags := 0, dataFlags := 0, gapNakReason := 2 }

/-- FREE VALUE (log 9, U11): what the transport does with the `n`-th send that no listed answer covers. No body: it
stands for every choice R314 and R317 allow. Frames it would deliver inside the send are not delivered (log 11). -/
opaque Config.freeAnswer : Nat → SendAnswer

/-- FREE VALUE (log 10, U10): the `n`-th choice of the corruption policy that no listed draw covers, while the policy
is on. No body: it stands for every choice R322 allows. -/
opaque Config.freeDraw : Nat → Draw

end Sys2Proof
end

