-- ==== Sys2Proof/Machine/State.lean ====
section
/-! DEFINITION. The state of one link (10_state.md R20 to R57) and of the collaborators at its boundary as far as the
engine's rules read or write them (48_interfaces.md R300), the reasons a step can stop, and the state after reset. -/

namespace Sys2Proof.Machine

/-- Host buffer memory: the bytes that differ from what an unlisted address reads as, by rising address (R60, R66). -/
abbrev Memory := List Host.Cell

/-- The link variables (R22 to R33). -/
structure LinkVars where
  /-- `state` (R22) -/
  state : LinkState
  /-- R (R25) -/
  r : Byte
  /-- N (R26) -/
  n : Byte
  /-- A (R27) -/
  a : Byte
  /-- T (R28) -/
  t : Byte
  /-- X (R29) -/
  x : Byte
  /-- SACK (R30) -/
  sack : Bool
  /-- SNAK (R30) -/
  snak : Bool
  /-- SREP (R30) -/
  srep : Bool
  /-- `nak_reason` (R32) -/
  nakReason : BitVec 6
  /-- `line_connected` (R33) -/
  lineConnected : Bool
  deriving DecidableEq, Repr, Inhabited

/-- The reply timer (R34). -/
structure Timer where
  running : Bool
  remaining : Nat
  deriving DecidableEq, Repr, Inhabited

/-- The dispatcher's bookkeeping (R23, R35 to R38). -/
structure Dispatcher where
  /-- `Scanning` (R35) -/
  scanning : Bool
  /-- `RecurseScan` (R36) -/
  recurseScan : Bool
  /-- `pending` (R37) -/
  pending : EventMask
  /-- `cur_event` (R38) -/
  curEvent : Option EventKind
  /-- `scan_index` (R23) -/
  scanIndex : Nat
  deriving DecidableEq, Repr, Inhabited

/-- Receive and transmit staging (R39 to R42). -/
structure Staging where
  /-- `rx_pkt` (R39) -/
  rxPkt : Option RxPkt
  /-- `tx_fifo` (R40) -/
  fifo : List TxItem
  /-- `tx_inflight` (R41) -/
  inflight : Option TxItem
  /-- `tx_done_kind` (R42) -/
  doneKind : TxKind
  /-- `tx_done_num` (R42) -/
  doneNum : Byte
  deriving DecidableEq, Repr, Inhabited

/-- The descriptor table and the five queues, each head first (R44 to R50, R170). -/
structure Pool where
  /-- `desc[0 .. W-1]` (R44) -/
  desc : List Descriptor
  /-- `free` (R46) -/
  free : List Handle
  /-- `receive` (R47) -/
  receive : List Handle
  /-- `transmit` (R48) -/
  transmit : List Handle
  /-- `ack_wait` (R49) -/
  ackWait : List Handle
  /-- `completion` (R50) -/
  completion : List Completion
  deriving DecidableEq, Repr, Inhabited

/-- The status latches (R51 to R53). -/
structure Latches where
  /-- `fatal` (R51) -/
  fatal : Bool
  /-- `start_rcvd` (R52) -/
  startRcvd : Bool
  /-- `rx_accept` (R53) -/
  rxAccept : Bool
  /-- `tx_accept` (R53) -/
  txAccept : Bool
  deriving DecidableEq, Repr, Inhabited

/-- What the latest operation that answers something answered. The MODEL's own field (log 17). -/
inductive Reply where
  /-- no answer -/
  | none
  /-- a byte string: `header`, `trailer`, the builders -/
  | bytes (b : List Byte)
  /-- a 16-bit value: `crc16` -/
  | word (w : Word16)
  /-- a byte: `inc`, `add` -/
  | byte (b : Byte)
  /-- -1, 0 or +1: `seq_cmp` -/
  | order (c : Int)
  /-- a truth value: `enqueue`, `push_front`, `transport.send`, host requests, a dispatch-table entry that fired or not -/
  | flag (b : Bool)
  /-- a queue's count -/
  | count (n : Nat)
  /-- what `parse` returned -/
  | parsed (r : ParseResult)
  /-- an element of a queue, or none: `dequeue`, `head` -/
  | elem (x : Option QueueElem)
  /-- a handle, or none: `find_seq` -/
  | found (h : Option Handle)
  /-- the handle of an accepted buffer or of `alloc` -/
  | handle (h : Handle)
  /-- the host's buffer was refused -/
  | refused
  /-- the record `host_pickup` took, or none -/
  | pickup (r : Option Completion)
  deriving DecidableEq, Repr, Inhabited

/-- One queue of the diagnostic dump: capacity, count and contents in order (R324). -/
structure QueueDump where
  capacity : Nat
  count : Nat
  contents : List Handle
  deriving DecidableEq, Repr, Inhabited

/-- The diagnostic dump (R324): an output record, read by nothing. -/
structure Dump where
  cause : FatalCause
  link : LinkVars
  timer : Timer
  free : QueueDump
  receive : QueueDump
  transmit : QueueDump
  ackWait : QueueDump
  completionCapacity : Nat
  completionCount : Nat
  completion : List Completion
  deriving DecidableEq, Repr, Inhabited

/-- One thing the outside world does to the engine (R17, R210). -/
inductive Stimulus where
  /-- the transport delivers one candidate frame (R315) -/
  | frame (bytes : List Byte)
  /-- an operation is called -/
  | call (i : Instr)
  /-- the host changes its own memory between two steps (R66, U13) -/
  | hostStore (address : Nat) (bytes : List Byte)
  deriving DecidableEq, Repr

/-- The collaborators at the boundary: what they will do and what has been handed to them. -/
structure Env where
  /-- the stimuli to come, first one first; the MODEL's own field (log 6) -/
  input : List Stimulus
  /-- the transport's answers to the sends to come; the MODEL's own field (log 9) -/
  answers : List SendAnswer
  /-- the corruption policy's choices to come; the MODEL's own field (log 10) -/
  draws : List Draw
  /-- how many free values have been taken; the MODEL's own field (logs 9, 10) -/
  freeCount : Nat
  /-- the frames the transport accepted, first one first; the MODEL's own field (log 28) -/
  wire : List (List Byte)
  /-- host buffer memory (R66) -/
  mem : Memory
  /-- the level `transport.line_enable` (R307) -/
  lineEnable : Bool
  /-- the latest answer (log 17) -/
  reply : Reply
  /-- the diagnostic dump, once emitted (R324) -/
  dump : Option Dump
  deriving DecidableEq, Repr

/-- The state of one link and its boundary. -/
structure State where
  cfg : Config
  link : LinkVars
  timer : Timer
  disp : Dispatcher
  tx : Staging
  pool : Pool
  latch : Latches
  env : Env
  deriving DecidableEq, Repr

/-- Why a step stops. Neither stands for anything the engine reports: its errors are next states (60_exceptions.md). -/
inductive Fault where
  /-- Raised by `enqueue`, `push_front`, `release` and `tx_send` called with a handle that is not one of 0..W-1: no such
  descriptor exists (R44, R170). Safe: the model stops where the spec gives no descriptor to act on. -/
  | noDescriptor
  /-- Raised by the dispatcher if its loop outlives the bound of `budget`; R220 says every dispatch ends, and an
  obligation says so of every state whose handles are owned once, under a configuration in range (log 16). Safe: the model
  stops. -/
  | dispatchOverrun
  deriving DecidableEq, Repr

/-- Why a step has no meaning. -/
inductive Refusal where
  /-- Raised by `exec` for an instruction that has no meaning yet. Safe. -/
  | notModelled (mnemonic : String)
  /-- Raised by `step` for a call whose operands are outside the ranges the spec gives them: "there is then no
  out-of-range case to define" (R128; log 25). Safe. -/
  | illFormed
  /-- Raised by `step` for a call of an operation that the outside does not have: "the operations of 48_interfaces.md are the
  only ones that exist" (R353; log 34). Safe. -/
  | notOffered
  deriving DecidableEq, Repr

/-- How a piece of a step goes on: with the next action, or not, because `raise Fatal` ended the step (R221, R346). -/
inductive Flow where
  | go (s : State)
  | ended (s : State)
  | overrun
  deriving DecidableEq, Repr

/-- The empty pending mask (R37). -/
def noEvents : EventMask :=
  { userHalt := false, userMaintenanceMode := false, userStartup := false, lineStatusChange := false,
    timerExpired := false, transmitDone := false, packetReceived := false, hostQueueChange := false }

/-- A descriptor as reset leaves it. DESIGN CHOICE (log 2), unsafe: R57 leaves its fields unspecified (U1). -/
def resetDescriptor : Descriptor :=
  { kind := .receive, address := 0, length := 0, actual := 0, eom := false, seq := 0, eventCode := .rxBufferComplete }

/-- The boundary before anything has happened: nothing waiting, nothing handed over, memory with nothing listed.
DESIGN CHOICE (log 4): these are the model's own fields. -/
def Env.initial : Env :=
  { input := [], answers := [], draws := [], freeCount := 0, wire := [], mem := [], lineEnable := false,
    reply := .none, dump := Option.none }

/-- The engine right after reset, with the configuration as given and the boundary as it stands (R57, R370; logs 2, 3
and 31 for what they leave open). -/
def State.resetWith (cfg : Config) (env : Env) : State :=
  { cfg := cfg
    link := { state := .halt, r := 0, n := 0, a := 0, t := 1, x := 0, sack := false, snak := false, srep := false,
              nakReason := 0, lineConnected := false }
    timer := { running := false, remaining := 0 }
    disp := { scanning := false, recurseScan := false, pending := noEvents, curEvent := Option.none,
              scanIndex := 0 }
    tx := { rxPkt := Option.none, fifo := [], inflight := Option.none, doneKind := .control, doneNum := 0 }
    pool := { desc := List.replicate cfg.window resetDescriptor, free := List.range cfg.window, receive := [],
              transmit := [], ackWait := [], completion := [] }
    latch := { fatal := false, startRcvd := false, rxAccept := true, txAccept := true }
    env := env }

/-- The machine right after power-on. -/
def State.reset : State := State.resetWith Config.atReset Env.initial

end Sys2Proof.Machine
end

