-- ==== Sys2Proof/Machine/Codec.lean ====
section
/-! DEFINITION. The packet codec as pure functions: the CRC-16 (40_crc16.md), the builders (41_codec_build.md), `parse`
(42_codec_parse.md) and the table from a parse result to `rx_pkt` (R148). -/

namespace Sys2Proof.Machine

/-- `CRC_POLY_REFLECTED` (R9). -/
def crcMask : Word16 := 0xA001

/-- One bit step of the CRC (R110). -/
def crcBit (crc : Word16) : Word16 :=
  if crc.getLsbD 0 then (crc >>> 1) ^^^ crcMask else crc >>> 1

/-- Four bit steps (R111). -/
def crcBits4 (crc : Word16) : Word16 := crcBit (crcBit (crcBit (crcBit crc)))

/-- One byte enters the CRC (R110). -/
def crcByte (crc : Word16) (b : Byte) : Word16 := crcBits4 (crcBits4 (crc ^^^ b.setWidth 16))

/-- `crc16(seed, s)`, the bit-serial definition, which is the normative one (R110). -/
def crc16 (seed : Word16) (s : List Byte) : Word16 := s.foldl crcByte seed

/-- The 16-entry nibble table (R111). -/
def crcTable : List Word16 :=
  [0x0000, 0xCC01, 0xD801, 0x1400, 0xF001, 0x3C00, 0x2800, 0xE401,
   0xA001, 0x6C00, 0x7800, 0xB401, 0x5000, 0x9C01, 0x8801, 0x4400]

/-- `(crc >> 4) xor T[(v xor crc)[3:0]]` (R111). -/
def crcNibbleStep (v crc : Word16) : Word16 :=
  (crc >>> 4) ^^^ crcTable.getD ((v ^^^ crc).extractLsb' 0 4).toNat 0

/-- One byte through the nibble table, low nibble first (R111). -/
def crcNibbleByte (crc : Word16) (b : Byte) : Word16 :=
  crcNibbleStep (b.setWidth 16 >>> 4) (crcNibbleStep (b.setWidth 16) crc)

/-- `crc16_nibble(seed, s)` (R111). -/
def crc16Nibble (seed : Word16) (s : List Byte) : Word16 := s.foldl crcNibbleByte seed

/-- `header(b0, b1, b2, b3, b4)` (R120). -/
def header (b0 b1 b2 b3 b4 : Byte) : List Byte :=
  let h := [b0, b1, b2, b3, b4, addrFill]
  let c := crc16 0 h
  h ++ [lowByte c, highByte c]

/-- `trailer(p)` (R129). -/
def trailer (p : List Byte) : List Byte :=
  let c := crc16 0 p
  [lowByte c, highByte c]

/-- `build_data(buf, len, flags, num, resp)` (R121). -/
def buildData (buf : List Byte) (len : BitVec 14) (flags : BitVec 2) (num resp : Byte) : List Byte :=
  header typeSOH (countLow len) (byte2Of flags (countHigh len)) resp num ++ buf ++ trailer buf

/-- `build_ack(resp, flags)` (R122). -/
def buildAck (resp : Byte) (flags : BitVec 2) : List Byte := header typeENQ ctlAck (byte2Of flags 0) resp 0

/-- `build_nak(reason, resp, flags)` (R123). -/
def buildNak (reason : BitVec 6) (resp : Byte) (flags : BitVec 2) : List Byte :=
  header typeENQ ctlNak (byte2Of flags reason) resp 0

/-- `build_rep(num, flags)` (R124). -/
def buildRep (num : Byte) (flags : BitVec 2) : List Byte := header typeENQ ctlRep (byte2Of flags 0) 0 num

/-- `build_start(flags)` (R125). -/
def buildStart (flags : BitVec 2) : List Byte := header typeENQ ctlStrt (byte2Of flags 0) 0 0

/-- `build_start_ack(flags)` (R126). -/
def buildStartAck (flags : BitVec 2) : List Byte := header typeENQ ctlStack (byte2Of flags 0) 0 0

/-- `build_maintenance(len)` (R127): the header alone. -/
def buildMaintenance (len : BitVec 14) : List Byte :=
  header typeDLE (countLow len) (byte2Of maintFlags (countHigh len)) 0 0

/-- `maint_frame(buf, len)` (R127). -/
def maintFrame (buf : List Byte) (len : BitVec 14) : List Byte := buildMaintenance len ++ buf ++ trailer buf

/-- The class a control sub-type selects (R145). -/
def controlClass (b1 : Byte) : Option PacketClass :=
  if b1 = ctlAck then some .ack
  else if b1 = ctlNak then some .nak
  else if b1 = ctlRep then some .rep
  else if b1 = ctlStrt then some .strt
  else if b1 = ctlStack then some .stack
  else none

/-- `parse` of a control frame whose header CRC is right (R145, R147). -/
def parseControl (b1 b2 b3 b4 b5 : Byte) : ParseResult :=
  match controlClass b1 with
  | some cls =>
    .packet { cls := cls, count := 0, flags := flagsOf b2, resp := b3, num := b4, subfield := low6Of b2, addr := b5,
              payload := [] }
  | none => .messageError .badSubtype

/-- `parse` of a data or maintenance frame whose header CRC is right; `body` is the bytes from offset 8 (R146, R147). -/
def parseBody (cls : PacketClass) (b1 b2 b3 b4 b5 : Byte) (body : List Byte) : ParseResult :=
  let count := countOf b1 b2
  if body.length < count.toNat + 2 then .messageError .dataCRC
  else if crc16 0 (body.take (count.toNat + 2)) ≠ 0 then .messageError .dataCRC
  else
    .packet { cls := cls, count := count, flags := flagsOf b2, resp := b3, num := b4, subfield := 0, addr := b5,
              payload := body.take count.toNat }

/-- `parse(b)` (R141): length, type, header CRC, then sub-type or data CRC, the first failure deciding (R150). -/
def parse : List Byte → ParseResult
  | b0 :: b1 :: b2 :: b3 :: b4 :: b5 :: b6 :: b7 :: body =>
    if b0 ≠ typeSOH ∧ b0 ≠ typeENQ ∧ b0 ≠ typeDLE then .messageError .badType
    else if crc16 0 [b0, b1, b2, b3, b4, b5, b6, b7] ≠ 0 then .messageError .headerCRC
    else if b0 = typeENQ then parseControl b1 b2 b3 b4 b5
    else parseBody (if b0 = typeSOH then .data else .maint) b1 b2 b3 b4 b5 body
  | _ => .messageError .tooShort

/-- NAK reason "header CRC error" (R9, R342). -/
def nakHdrCrc : BitVec 6 := 1

/-- NAK reason "data CRC error" (R9, R342). -/
def nakDataCrc : BitVec 6 := 2

/-- NAK reason "REP-reply-NUM-mismatch" (R9, R342). -/
def nakRepResp : BitVec 6 := 3

/-- NAK reason "no receive buffer available" (R9, R342). -/
def nakNoBuffer : BitVec 6 := 8

/-- NAK reason "message too long" (R9, R342). -/
def nakTooLong : BitVec 6 := 16

/-- NAK reason "header format error" (R9, R342): no rule of the engine sends it (D16). -/
def nakHdrFormat : BitVec 6 := 17

/-- What a received byte string puts into `rx_pkt`; none is a silent discard (R148, R316). -/
def received (bytes : List Byte) : Option RxPkt :=
  match parse bytes with
  | .packet p => some (.packet p)
  | .messageError .headerCRC =>
    if bytes.head? = some typeSOH ∨ bytes.head? = some typeENQ then some (.error nakHdrCrc) else none
  | .messageError .dataCRC => if bytes.head? = some typeSOH then some (.error nakDataCrc) else none
  | .messageError .tooShort => none
  | .messageError .badType => none
  | .messageError .badSubtype => none

/-- The mask of the bits of byte `i` that a flip inverts (R322). -/
def flipMask (bits : List Nat) (i : Nat) : Byte :=
  (List.range 8).foldl (fun m j => if bits.contains (8 * i + j) then m ^^^ ((1 : Byte) <<< j) else m) 0

/-- A frame with the bits of a flip inverted, from byte `i` on (R322). -/
def flipFrom (bits : List Nat) : Nat → List Byte → List Byte
  | _, [] => []
  | i, b :: rest => (b ^^^ flipMask bits i) :: flipFrom bits (i + 1) rest

/-- `apply(c, b)` for a choice that is not Drop (R322). -/
def applyDraw : Draw → List Byte → List Byte
  | .flip bits, b => flipFrom bits 0 b
  | .pass, b => b
  | .drop, b => b

end Sys2Proof.Machine
end

