-- ==== Sys2Proof/Machine/Operands.lean ====
section
/-! DEFINITION. Operand arithmetic and operand access: sequence numbers (43_sequence_arithmetic.md), host buffer memory
(20_memory.md), and the packet a scan sees (R217, R227). -/

namespace Sys2Proof.Machine

/-- `inc(v)` (R163). -/
def inc (v : Byte) : Byte := v + 1

/-- `add(v, k)` (R163). -/
def add (v : Byte) (k : Nat) : Byte := v + BitVec.ofNat 8 k

/-- `seq_cmp(a, b, W)` (R160): -1, 0 or +1. -/
def seqCmp (a b : Byte) (w : Nat) : Int :=
  if a = b then 0
  else
    let nat : Int := if a.toNat < b.toNat then -1 else 1
    let dist := if a.toNat < b.toNat then b.toNat - a.toNat else a.toNat - b.toNat
    if dist ≤ w then nat else -nat

/-- `EQ(a, b)` (R161). -/
def seqEQ (a b : Byte) : Bool := a == b

/-- `NE(a, b)` (R161). -/
def seqNE (a b : Byte) : Bool := a != b

/-- `LT(a, b)` (R161). -/
def seqLT (w : Nat) (a b : Byte) : Bool := seqCmp a b w == -1

/-- `LE(a, b)` (R161). -/
def seqLE (w : Nat) (a b : Byte) : Bool := seqCmp a b w != 1

/-- `GT(a, b)` (R161). -/
def seqGT (w : Nat) (a b : Byte) : Bool := seqCmp a b w == 1

/-- `GE(a, b)` (R161). -/
def seqGE (w : Nat) (a b : Byte) : Bool := seqCmp a b w != -1

/-- What a byte of host memory that nothing has written reads as. DESIGN CHOICE (log 5), unsafe. -/
def blankByte : Byte := 0

/-- One byte of host memory. -/
def memRead : Memory → Nat → Byte
  | [], _ => blankByte
  | (x, b) :: rest, a => if x = a then b else memRead rest a

/-- Host memory after one byte is written; the canonical form is kept. -/
def memWrite : Memory → Nat → Byte → Memory
  | [], a, b => if b = blankByte then [] else [(a, b)]
  | (x, c) :: rest, a, b =>
    if a < x then (if b = blankByte then (x, c) :: rest else (a, b) :: (x, c) :: rest)
    else if a = x then (if b = blankByte then rest else (a, b) :: rest)
    else (x, c) :: memWrite rest a b

/-- `MemRead(addr, n)`: ascending, one byte at a time (R13, R68). DESIGN CHOICE (log 33), unsafe: reading host memory changes
nothing; R66 leaves it to the host whether a read has side effects. -/
def memReadBytes (m : Memory) (addr : Nat) : Nat → List Byte
  | 0 => []
  | n + 1 => memRead m addr :: memReadBytes m (addr + 1) n

/-- `MemWrite(addr, n, v)`: ascending, one byte at a time (R13, R68). -/
def memWriteBytes (m : Memory) (addr : Nat) : List Byte → Memory
  | [] => m
  | b :: rest => memWriteBytes (memWrite m addr b) (addr + 1) rest

/-- The canonical form from an address on: addresses strictly rising, no entry that an unlisted address would read. -/
def memWfFrom : Nat → Memory → Bool
  | _, [] => true
  | lo, (x, b) :: rest => decide (lo ≤ x) && b != blankByte && memWfFrom (x + 1) rest

/-- Host memory is in its canonical form. -/
def Memory.wf (m : Memory) : Bool := memWfFrom 0 m

/-- The packet part of a scan's snapshot: `(ev = PacketReceived) ? rx_pkt : none` (R217). -/
def scanPacket (ev : Option EventKind) (s : State) : Option RxPkt :=
  if ev = some .packetReceived then s.tx.rxPkt else none

/-- A condition on the packet of the scan: false where the scan has none. -/
def packetHas (pkt : Option RxPkt) (f : Packet → Bool) : Bool :=
  match pkt with
  | some (.packet p) => f p
  | some (.error _) => false
  | none => false

end Sys2Proof.Machine
end

