-- ==== Sys2Proof/Machine/Flags.lean ====
section
/-! DEFINITION. The engine's flags: the pending mask and its priority (R37, R213), the latch actions (R233 to R237,
R253) and every condition of the dispatch table (R222 to R226). There is no arithmetic flag (R54). -/

namespace Sys2Proof.Machine

/-- Whether an event kind is pending. -/
def pendingHas (m : EventMask) : EventKind → Bool
  | .userHalt => m.userHalt
  | .userMaintenanceMode => m.userMaintenanceMode
  | .userStartup => m.userStartup
  | .lineStatusChange => m.lineStatusChange
  | .timerExpired => m.timerExpired
  | .transmitDone => m.transmitDone
  | .packetReceived => m.packetReceived
  | .hostQueueChange => m.hostQueueChange

/-- The mask with one event kind's bit set to `b`. -/
def pendingSet (m : EventMask) (e : EventKind) (b : Bool) : EventMask :=
  match e with
  | .userHalt => { m with userHalt := b }
  | .userMaintenanceMode => { m with userMaintenanceMode := b }
  | .userStartup => { m with userStartup := b }
  | .lineStatusChange => { m with lineStatusChange := b }
  | .timerExpired => { m with timerExpired := b }
  | .transmitDone => { m with transmitDone := b }
  | .packetReceived => { m with packetReceived := b }
  | .hostQueueChange => { m with hostQueueChange := b }

/-- The event kinds in the priority order of R213, highest first. -/
def eventPriority : List EventKind :=
  [.userHalt, .userMaintenanceMode, .userStartup, .lineStatusChange, .timerExpired, .transmitDone, .packetReceived,
   .hostQueueChange]

/-- The pending event of the highest priority (R213, R216). -/
def pendingFirst (m : EventMask) : Option EventKind := eventPriority.find? (pendingHas m)

/-- `SetSACK` (R233). -/
def setSACK (s : State) : State := { s with link.sack := true, link.snak := false }

/-- `SetSNAK(r)` (R234). -/
def setSNAK (r : BitVec 6) (s : State) : State := { s with link.snak := true, link.sack := false, link.nakReason := r }

/-- `ClearSNAK` (R235). -/
def clearSNAK (s : State) : State := { s with link.snak := false }

/-- `SetSREP` (R236). -/
def setSREP (s : State) : State := { s with link.srep := true }

/-- `ClearSREP` (R236). -/
def clearSREP (s : State) : State := { s with link.srep := false }

/-- `ClearSACK` (R237). -/
def clearSACK (s : State) : State := { s with link.sack := false }

/-- `ClearStartReceived` (R253). -/
def clearStartReceived (s : State) : State := { s with latch.startRcvd := false }

/-- An event condition: the scan's event is this kind (R222). -/
def isEvent (e : EventKind) (ev : Option EventKind) : Bool := ev == some e

/-- `DataMessageSent` (R222). -/
def dataMessageSent (ev : Option EventKind) (s : State) : Bool := ev == some .transmitDone && s.tx.doneKind == .data

/-- `ReceiveAck` .. `ReceiveMaintMsg`: the scan's packet is of this class (R222). -/
def receives (c : PacketClass) (pkt : Option RxPkt) : Bool := packetHas pkt fun p => p.cls == c

/-- `ReceiveMessageError` (R222). -/
def receiveMessageError (pkt : Option RxPkt) : Bool :=
  match pkt with
  | some (.error _) => true
  | some (.packet _) => false
  | none => false

/-- `LineConnected` (R223). -/
def lineConnected (s : State) : Bool := s.link.lineConnected

/-- `LineDisconnected` (R223). -/
def lineDisconnected (s : State) : Bool := !s.link.lineConnected

/-- `TimerNotRunning` (R223). -/
def timerNotRunning (s : State) : Bool := !s.timer.running

/-- `XmitIdle` (R224). -/
def xmitIdle (s : State) : Bool := s.tx.inflight.isNone && s.tx.fifo.isEmpty

/-- `SNAK set` (R225); "SNAK clear" is its negation. -/
def snakSet (s : State) : Bool := s.link.snak

/-- `SREP set` (R225); "SREP clear" is its negation. -/
def srepSet (s : State) : Bool := s.link.srep

/-- `SACK set` (R225). -/
def sackSet (s : State) : Bool := s.link.sack

/-- `UserMessageQueued` (R226). -/
def userMessageQueued (s : State) : Bool := decide (0 < s.pool.transmit.length)

/-- `AckWaitNotFull` (R226), `CAP_ACKWAIT` being `W` (R183). -/
def ackWaitNotFull (s : State) : Bool := decide (s.pool.ackWait.length < s.cfg.window)

/-- `T = inc(N)`: no retransmission is due (R227). -/
def tIsNextNew (s : State) : Bool := seqEQ s.link.t (inc s.link.n)

/-- `LT(T, inc(N))`: message T is to be retransmitted (R227). -/
def tBehindNextNew (s : State) : Bool := seqLT s.cfg.window s.link.t (inc s.link.n)

end Sys2Proof.Machine
end

