-- ==== Sys2Proof/Machine/Ops.lean ====
section
/-! DEFINITION. The shared operations: sequencing of actions, the queue primitives and the descriptor pool
(44_queues.md), the reply timer (45_timer.md), notifications (R181), raising Fatal (R346), entry to and exit from the
dispatcher (R215, R216, R351), the corruption choice and `transport.send` (R314, R322), and the transmitter agent as it
behaves inside a dispatch (R311, R312). -/

namespace Sys2Proof.Machine

/-- Go on with the next action, unless the step has ended (R218, R221). -/
def Flow.andThen : Flow → (State → Flow) → Flow
  | .go s, f => f s
  | .ended s, _ => .ended s
  | .overrun, _ => .overrun

/-- A piece of a step as the outcome of a whole step. -/
def Flow.outcome : Flow → Host.Outcome State Fault Refusal
  | .go s => .next s
  | .ended s => .next s
  | .overrun => .fault .dispatchOverrun

/-- Actions in the listed order, each seeing the writes of the ones before it (R218). -/
def runActions : List (State → Flow) → State → Flow
  | [], s => .go s
  | a :: rest, s => (a s).andThen (runActions rest)

/-- The answer of an operation. -/
def answer (r : Reply) (s : State) : State := { s with env.reply := r }

/-! ### Queues and descriptors -/

/-- The capacities of R183. -/
def capacity (c : Config) : QueueName → Nat
  | .free => c.window
  | .receive => c.window
  | .transmit => c.window
  | .ackWait => c.window
  | .completion => c.window + 4

/-- The name of a queue of handles. -/
def handleQueueName : HandleQueue → QueueName
  | .free => .free
  | .receive => .receive
  | .transmit => .transmit
  | .ackWait => .ackWait

/-- A queue of handles. -/
def handles (p : Pool) : HandleQueue → List Handle
  | .free => p.free
  | .receive => p.receive
  | .transmit => p.transmit
  | .ackWait => p.ackWait

/-- The pool with one queue of handles replaced. -/
def setHandles (p : Pool) (q : HandleQueue) (l : List Handle) : Pool :=
  match q with
  | .free => { p with free := l }
  | .receive => { p with receive := l }
  | .transmit => { p with transmit := l }
  | .ackWait => { p with ackWait := l }

/-- `enqueue` on a list with a capacity (R172). -/
def listEnqueue {α : Type} (cap : Nat) (q : List α) (x : α) : Bool × List α :=
  if q.length = cap then (false, q) else (true, q ++ [x])

/-- `push_front` on a list with a capacity (R173). -/
def listPushFront {α : Type} (cap : Nat) (q : List α) (x : α) : Bool × List α :=
  if q.length = cap then (false, q) else (true, x :: q)

/-- Whether a handle names a descriptor: an index 0..W-1 (R44, R170). -/
def isHandle (s : State) (h : Handle) : Bool := decide (h < s.cfg.window)

/-- The handle an operand brings into a queue, if any. -/
def argHandle : QueueArg → Option Handle
  | .handleIn _ h => some h
  | .recordIn r => r.buffer

/-- `enqueue(q, x)` (R172): the truth value and the state. -/
def enqueue (x : QueueArg) (s : State) : Bool × State :=
  match x with
  | .handleIn q h =>
    let r := listEnqueue (capacity s.cfg (handleQueueName q)) (handles s.pool q) h
    (r.1, { s with pool := setHandles s.pool q r.2 })
  | .recordIn c =>
    let r := listEnqueue (capacity s.cfg .completion) s.pool.completion c
    (r.1, { s with pool.completion := r.2 })

/-- `push_front(q, x)` (R173): the truth value and the state. -/
def pushFront (x : QueueArg) (s : State) : Bool × State :=
  match x with
  | .handleIn q h =>
    let r := listPushFront (capacity s.cfg (handleQueueName q)) (handles s.pool q) h
    (r.1, { s with pool := setHandles s.pool q r.2 })
  | .recordIn c =>
    let r := listPushFront (capacity s.cfg .completion) s.pool.completion c
    (r.1, { s with pool.completion := r.2 })

/-- `head(q)` (R175). -/
def queueHead (p : Pool) : QueueName → Option QueueElem
  | .free => p.free.head?.map .handle
  | .receive => p.receive.head?.map .handle
  | .transmit => p.transmit.head?.map .handle
  | .ackWait => p.ackWait.head?.map .handle
  | .completion => p.completion.head?.map .record

/-- The pool after `dequeue(q)` (R174): an empty queue stays as it is. -/
def queueTail (p : Pool) : QueueName → Pool
  | .free => { p with free := p.free.tail }
  | .receive => { p with receive := p.receive.tail }
  | .transmit => { p with transmit := p.transmit.tail }
  | .ackWait => { p with ackWait := p.ackWait.tail }
  | .completion => { p with completion := p.completion.tail }

/-- `count(q)` (R176). -/
def queueCount (p : Pool) : QueueName → Nat
  | .free => p.free.length
  | .receive => p.receive.length
  | .transmit => p.transmit.length
  | .ackWait => p.ackWait.length
  | .completion => p.completion.length

/-- `desc[h]`. A handle outside the table, which no run reaches, reads as a descriptor of reset (log 15). -/
def descOf (s : State) (h : Handle) : Descriptor := s.pool.desc.getD h resetDescriptor

/-- `desc[h]` changed by `f`. -/
def setDesc (h : Handle) (f : Descriptor → Descriptor) (s : State) : State :=
  { s with pool.desc := s.pool.desc.modify h f }

/-- `find_seq(ack_wait, s)` (R185). -/
def findSeq (s : State) (seq : Byte) : Option Handle := s.pool.ackWait.find? fun h => (descOf s h).seq == seq

/-- `release(h)` (R178): `enqueue(free, h)`. -/
def release (h : Handle) (s : State) : State := (enqueue (.handleIn .free h) s).2

/-- The release of a transmit item's descriptor, where it owns one (R312). -/
def releaseItem (i : TxItem) (s : State) : State :=
  match i.desc with
  | some h => release h s
  | none => s

/-- `alloc(kind)` (R177) where `free` is not empty; none where it is, and the caller raises Fatal. -/
def alloc (k : BufferKind) (s : State) : Option (Handle × State) :=
  match s.pool.free with
  | [] => none
  | h :: rest =>
    some (h, setDesc h (fun d => { d with kind := k, actual := 0, seq := 0, eom := false })
      { s with pool.free := rest })

/-- A buffer handed to the host: its descriptor's `actual` and `event_code` and its completion record (R180). -/
def complete (h : Handle) (len : BitVec 14) (code : EventCode) (s : State) : State :=
  (enqueue (.recordIn { buffer := some h, actualLength := len, code := code })
    (setDesc h (fun d => { d with actual := len, eventCode := code }) s)).2

/-- `notify(code)` (R181). -/
def notify (code : EventCode) (s : State) : State :=
  if s.pool.completion.any (fun r => r.buffer == none && r.code == code) then s
  else (enqueue (.recordIn { buffer := none, actualLength := 0, code := code }) s).2

/-- One turn of `RequeueAckWait`: the buffer goes to the head of `transmit`, its number cleared (R184). -/
def requeueOne (s : State) (h : Handle) : State :=
  (pushFront (.handleIn .transmit h) (setDesc h (fun d => { d with seq := 0 }) s)).2

/-- `RequeueAckWait` (R184): the tail of `ack_wait` first, so that the oldest buffer ends at the head of `transmit`. -/
def requeueAckWait (s : State) : State :=
  s.pool.ackWait.reverse.foldl requeueOne { s with pool.ackWait := [] }

/-! ### The reply timer -/

/-- `StartTimer` (R200). -/
def startTimer (s : State) : State := { s with timer := { running := true, remaining := s.cfg.pktTimeout } }

/-- `StopTimer` (R201): `remaining` keeps its value. -/
def stopTimer (s : State) : State := { s with timer.running := false }

/-! ### Fatal, and entry to and exit from the dispatcher -/

/-- The dump of one queue of handles (R324). -/
def queueDump (c : Config) (q : QueueName) (l : List Handle) : QueueDump :=
  { capacity := capacity c q, count := l.length, contents := l }

/-- The diagnostic dump of a state (R324). -/
def dumpOf (cause : FatalCause) (s : State) : Dump :=
  { cause := cause, link := s.link, timer := s.timer
    free := queueDump s.cfg .free s.pool.free
    receive := queueDump s.cfg .receive s.pool.receive
    transmit := queueDump s.cfg .transmit s.pool.transmit
    ackWait := queueDump s.cfg .ackWait s.pool.ackWait
    completionCapacity := capacity s.cfg .completion
    completionCount := s.pool.completion.length
    completion := s.pool.completion }

/-- `raise Fatal(where)` (R346): the one exception of the engine. It is a next state; the caller ends the step with
`Flow.ended`. -/
def raiseFatal (cause : FatalCause) (s : State) : State :=
  notify .fatal
    { s with
      env.dump := some (dumpOf cause s)
      latch.fatal := true
      link.state := .halt
      timer.running := false
      disp := { scanning := false, recurseScan := false, pending := noEvents, curEvent := none, scanIndex := 0 } }

/-- Entry to the dispatcher with `Scanning = 0` (R216, R351). -/
def enterDispatch (s : State) : State := { s with disp.scanning := true }

/-- Exit from the dispatcher (R216, R351). -/
def leaveDispatch (s : State) : State :=
  { s with disp.scanning := false, disp.recurseScan := false, disp.curEvent := none, disp.scanIndex := 0 }

/-- An event that arrives while a dispatch runs: merged into `pending` (R215). -/
def postEvent (e : EventKind) (s : State) : State :=
  { s with disp.pending := pendingSet s.disp.pending e true, disp.recurseScan := true }

/-- `Dispatch(e)` while `Scanning = 1` (R215). -/
def dispatchScanning (e : EventKind) (s : State) : State := if s.latch.fatal then s else postEvent e s

/-! ### The corruption choice and the transport -/

/-- `corruption_choice()` (R322): Pass while the policy is off; else the next listed choice; else a free value. -/
def corruptionChoice (s : State) : Draw × State :=
  if s.cfg.corruptPermille = 0 then (.pass, s)
  else
    match s.env.draws with
    | d :: rest => (d, { s with env.draws := rest })
    | [] => (Config.freeDraw s.env.freeCount, { s with env.freeCount := s.env.freeCount + 1 })

/-- A free answer delivers no frame inside the send: only the listed answers do, so that a step hears finitely many
(R220; log 11). -/
def silently : SendAnswer → SendAnswer
  | .refused => .refused
  | .acceptedLater => .acceptedLater
  | .acceptedNow => .acceptedNow
  | .acceptedReceiving _ true => .acceptedNow
  | .acceptedReceiving _ false => .acceptedLater

/-- The transport's answer to a send (R313, R314, R317, R378): the next listed one, else a free value. -/
def transportAnswer (s : State) : SendAnswer × State :=
  match s.env.answers with
  | a :: rest => (a, { s with env.answers := rest })
  | [] => (silently (Config.freeAnswer s.env.freeCount), { s with env.freeCount := s.env.freeCount + 1 })

/-- `transport.send(bytes)` (R314): an accepted frame is on its way. What the transport calls back before it returns is
done by `tx_kick`, once it has recorded `tx_inflight` (R317). -/
def transportSend (bytes : List Byte) (s : State) : SendAnswer × State :=
  let r := transportAnswer s
  (r.1, if r.1 = .refused then r.2 else { r.2 with env.wire := r.2.env.wire ++ [bytes] })

/-- A frame offered to the transport through the corruption policy (R311, R321): a dropped frame counts as accepted
and completed at once, and never reaches the transport. -/
def offerFrame (bytes : List Byte) (s : State) : SendAnswer × State :=
  let c := corruptionChoice s
  match c.1 with
  | .drop => (.acceptedNow, c.2)
  | .pass => transportSend bytes c.2
  | .flip bits => transportSend (applyDraw (.flip bits) bytes) c.2

/-! ### Reception -/

/-- What `on_receive(bytes)` puts into `rx_pkt`, none for a silent discard and for a frame the policy drops (R316, R323). -/
def heard (bytes : List Byte) (s : State) : Option RxPkt × State :=
  let c := corruptionChoice s
  match c.1 with
  | .drop => (none, c.2)
  | .pass => (received bytes, c.2)
  | .flip bits => (received (applyDraw (.flip bits) bytes), c.2)

/-- `on_receive(bytes)` while a dispatch runs (R215, R316): the packet overwrites `rx_pkt`, and its event merges with one that
is still pending (R378). -/
def receiveScanning (s : State) (bytes : List Byte) : State :=
  if s.latch.fatal then s
  else
    let h := heard bytes s
    match h.1 with
    | some rx => dispatchScanning .packetReceived { h.2 with tx.rxPkt := some rx }
    | none => h.2

/-! ### The transmitter agent -/

/-- The item leaves `tx_fifo` and is in flight (R311). -/
def takeFlight (item : TxItem) (rest : List TxItem) (s : State) : State :=
  { s with tx.fifo := rest, tx.inflight := some item }

/-- `transmit_complete` up to its dispatch (R312): the item is no longer in flight, a control frame's descriptor is
free, and `tx_done_kind`, `tx_done_num` say what was sent. -/
def landFlight (item : TxItem) (s : State) : State :=
  let s1 := releaseItem item { s with tx.inflight := none }
  { s1 with tx.doneKind := item.kind, tx.doneNum := item.num }

/-- `tx_kick` while a dispatch runs (R311, R312): a packet delivered inside `send` posts `PacketReceived` (R378), and a
completion inside `send` posts `TransmitDone` and kicks again. The number bounds the frames that can leave. -/
def kickScanning : Nat → State → State
  | 0, s => s
  | n + 1, s =>
    if s.tx.inflight.isSome then s
    else
      match s.tx.fifo with
      | [] => s
      | item :: rest =>
        let r := offerFrame item.bytes s
        match r.1 with
        | .refused => r.2
        | .acceptedLater => takeFlight item rest r.2
        | .acceptedNow =>
          kickScanning n (dispatchScanning .transmitDone (landFlight item (takeFlight item rest r.2)))
        | .acceptedReceiving frames completes =>
          let s1 := frames.foldl receiveScanning (takeFlight item rest r.2)
          if completes then kickScanning n (dispatchScanning .transmitDone (landFlight item s1)) else s1

/-- `tx_kick` as the dispatcher's actions call it, `Scanning` being 1. -/
def kickInDispatch (s : State) : Flow := .go (kickScanning s.tx.fifo.length s)

/-- `tx_send(item)` (R310), with the `tx_kick` of where it is called. -/
def txSend (kick : State → Flow) (item : TxItem) (s : State) : Flow := kick { s with tx.fifo := s.tx.fifo ++ [item] }

end Sys2Proof.Machine
end

