-- ==== Sys2Proof/Machine/Actions.lean ====
section
/-! DEFINITION. The actions of the dispatch table that do more than set a latch (46_dispatch_engine.md R230 to R256).
`kick` is the `tx_kick` that `tx_send` performs: inside a dispatch a completion is posted, outside it is dispatched. -/

namespace Sys2Proof.Machine

/-- `SendControl(bytes)` (R231). -/
def sendControl (kick : State → Flow) (bytes : List Byte) (s : State) : Flow :=
  match alloc .transmitControl s with
  | none => .ended (raiseFatal .poolExhausted s)
  | some (h, s1) =>
    txSend kick { bytes := bytes, kind := .control, num := 0, desc := some h }
      (setDesc h (fun d => { d with length := 8 }) s1)

/-- `ResetVariables` (R232). -/
def resetVariables (s : State) : State :=
  let s1 := requeueAckWait
    { s with link := { s.link with r := 0, n := 0, a := 0, x := 0, t := 1, sack := false, snak := false,
                                   srep := false, nakReason := 0 } }
  { s1.tx.fifo.foldl (fun acc item => releaseItem item acc) s1 with tx.fifo := [] }

/-- `SetSNAKFromError` (R238), with `reason = pkt.reason`. -/
def setSNAKFromError (reason : BitVec 6) (s : State) : State := setSNAK reason s

/-- `SendStrt` (R239). -/
def sendStrt (kick : State → Flow) (s : State) : Flow := sendControl kick (buildStart s.cfg.ctlFlags) s

/-- `SendStack` (R240). -/
def sendStack (kick : State → Flow) (s : State) : Flow := sendControl kick (buildStartAck s.cfg.ctlFlags) s

/-- The loop of `CompleteAcked` (R241); the number bounds its turns. -/
def completeLoop (resp : Byte) : Nat → State → State
  | 0, s => s
  | n + 1, s =>
    match s.pool.ackWait with
    | [] => s
    | h :: rest =>
      if seqLE s.cfg.window (descOf s h).seq resp then
        completeLoop resp n
          (complete h (descOf s h).length .txBufferComplete { s with pool.ackWait := rest })
      else s

/-- `CompleteAcked` (R241), with `resp = pkt.resp`. -/
def completeAcked (resp : Byte) (s : State) : State :=
  { completeLoop resp s.pool.ackWait.length s with link.a := resp }

/-- `BumpT` (R242). -/
def bumpT (s : State) : State :=
  if seqLE s.cfg.window s.link.t s.link.a then { s with link.t := inc s.link.a } else s

/-- `SetTToAplus1` (R242). -/
def setTToAplus1 (s : State) : State := { s with link.t := inc s.link.a }

/-- `StopTimerIfAGeX` (R243). -/
def stopTimerIfAGeX (s : State) : State :=
  if seqGE s.cfg.window s.link.a s.link.x then stopTimer s else s

/-- A received payload into the host's buffer, and the buffer to `completion` (R244, R255). -/
def deliver (h : Handle) (rest : List Handle) (pkt : Packet) (code : EventCode) (s : State) : State :=
  complete h pkt.count code
    { s with pool.receive := rest, env.mem := memWriteBytes s.env.mem (descOf s h).address pkt.payload }

/-- `GiveBufferToUser` (R244). -/
def giveBufferToUser (pkt : Packet) (s : State) : State :=
  match s.pool.receive with
  | [] => setSNAK nakNoBuffer s
  | h :: rest =>
    if (descOf s h).length.toNat < pkt.count.toNat then setSNAK nakTooLong s
    else
      let s1 := deliver h rest pkt .rxBufferComplete s
      setSACK { s1 with link.r := inc s1.link.r }

/-- `DeliverMaintToHost` (R255). -/
def deliverMaintToHost (pkt : Packet) (s : State) : State :=
  match s.pool.receive with
  | [] => s
  | h :: rest =>
    if (descOf s h).length.toNat < pkt.count.toNat then s else deliver h rest pkt .maintBufferComplete s

/-- The bytes of a transmit buffer as they stand now (R66, R377). -/
def bufferBytes (h : Handle) (s : State) : List Byte :=
  memReadBytes s.env.mem (descOf s h).address (descOf s h).length.toNat

/-- `SendNewData` (R245). An empty `transmit`, which the rule's condition rules out, sends nothing. -/
def sendNewData (kick : State → Flow) (s : State) : Flow :=
  match s.pool.transmit with
  | [] => .go s
  | h :: rest =>
    let num := inc s.link.n
    let s1 := setDesc h (fun d => { d with seq := num })
      { s with pool.transmit := rest, link.n := num, link.t := inc num }
    let s2 := (enqueue (.handleIn .ackWait h) s1).2
    txSend kick
      { bytes := buildData (bufferBytes h s2) (descOf s2 h).length s2.cfg.dataFlags num s2.link.r,
        kind := .data, num := num, desc := none } s2

/-- `RetransmitT` (R246). -/
def retransmitT (kick : State → Flow) (s : State) : Flow :=
  match findSeq s s.link.t with
  | none => .ended (raiseFatal .missingRetransmitBuffer s)
  | some h =>
    (txSend kick
      { bytes := buildData (bufferBytes h s) (descOf s h).length s.cfg.dataFlags s.link.t s.link.r,
        kind := .data, num := s.link.t, desc := none } s).andThen
      fun s1 => .go { s1 with link.t := inc s1.link.t }

/-- `SendAck` (R247). -/
def sendAck (kick : State → Flow) (s : State) : Flow := sendControl kick (buildAck s.link.r s.cfg.ctlFlags) s

/-- `SendNak` (R248). -/
def sendNak (kick : State → Flow) (s : State) : Flow :=
  sendControl kick (buildNak s.link.nakReason s.link.r s.cfg.ctlFlags) s

/-- `SendRep` (R249). -/
def sendRep (kick : State → Flow) (s : State) : Flow := sendControl kick (buildRep s.link.n s.cfg.ctlFlags) s

/-- The loop of `NakMissing` (R250): the next `n` numbers from `k` on, each in a NAK's RESP byte. -/
def nakLoop (kick : State → Flow) : Nat → Byte → State → Flow
  | 0, _, s => .go s
  | n + 1, k, s =>
    (sendControl kick (buildNak s.cfg.gapNakReason k s.cfg.ctlFlags) s).andThen (nakLoop kick n (inc k))

/-- `NakMissing` (R250), with `num = pkt.num`: k = R, R+1, .. up to and without `num`. -/
def nakMissing (kick : State → Flow) (num : Byte) (s : State) : Flow := nakLoop kick (num - s.link.r).toNat s.link.r s

/-- `SetXToSentNum` (R251). -/
def setXToSentNum (s : State) : State := { s with link.x := s.tx.doneNum }

/-- `StartOrStopTimerByAX` (R251). -/
def startOrStopTimerByAX (s : State) : State :=
  if seqLT s.cfg.window s.link.a s.link.x then startTimer s else stopTimer s

/-- `NotifyDisconnect` (R252). -/
def notifyDisconnect (s : State) : State := notify .disconnect s

/-- `NotifyStartReceived` (R252). -/
def notifyStartReceived (s : State) : State := notify .startReceived { s with latch.startRcvd := true }

/-- `NotifyMaintReceived` (R252). -/
def notifyMaintReceived (s : State) : State := notify .maintenanceReceived s

/-- `SendMaintMessage` (R256). An empty `transmit`, which the rule's condition rules out, sends nothing. -/
def sendMaintMessage (kick : State → Flow) (s : State) : Flow :=
  match s.pool.transmit with
  | [] => .go s
  | h :: rest =>
    let p := bufferBytes h s
    let len := (descOf s h).length
    txSend kick { bytes := maintFrame p len, kind := .maint, num := 0, desc := none }
      (complete h len .txBufferComplete { s with pool.transmit := rest })

end Sys2Proof.Machine
end

