-- ==== Sys2Proof/Machine/Rules.lean ====
section
/-! DEFINITION. The dispatch table DR00 to DR28 (47_dispatch_rules.md R260 to R288), one definition for each entry, the
table in scan order (R290), and the test and firing of one entry (R217, R218). -/

namespace Sys2Proof.Machine

/-- One entry: a state or ANY (none), its conditions over the scan's event, the packet copy and the link state, the new
state and the actions in order. -/
structure Rule where
  state : Option LinkState
  holds : Option EventKind → Option RxPkt → State → Bool
  newState : LinkState
  actions : Option RxPkt → List (State → Flow)

/-- An action that cannot end the step. -/
def act (f : State → State) (s : State) : Flow := .go (f s)

/-- `StartTimer` as an action (R230). -/
def start (s : State) : Flow := .go (startTimer s)

/-- `StopTimer` as an action (R230). -/
def stop (s : State) : Flow := .go (stopTimer s)

/-- An action on the scan's packet; the entry's conditions see to it that there is one. -/
def onPacket (pkt : Option RxPkt) (f : Packet → State → Flow) (s : State) : Flow :=
  match pkt with
  | some (.packet p) => f p s
  | some (.error _) => .go s
  | none => .go s

/-- An action on the scan's error; the entry's conditions see to it that there is one. -/
def onError (pkt : Option RxPkt) (f : BitVec 6 → State → Flow) (s : State) : Flow :=
  match pkt with
  | some (.error reason) => f reason s
  | some (.packet _) => .go s
  | none => .go s

/-- Whether an entry matches: its state, and every condition (R217). -/
def Rule.applies (r : Rule) (ev : Option EventKind) (pkt : Option RxPkt) (s : State) : Bool :=
  (match r.state with
   | none => true
   | some st => st == s.link.state) && r.holds ev pkt s

/-- `Fire(rule, ev, pkt)` (R218): the actions in order, then the new state; a raised Fatal applies no new state (R221). -/
def Rule.fire (r : Rule) (pkt : Option RxPkt) (s : State) : Flow :=
  (runActions (r.actions pkt) s).andThen fun s1 => .go { s1 with link.state := r.newState }

/-- DR00 (R260). State ANY; UserHalt; to Halt; StopTimer. -/
def dr00 : Rule where
  state := none
  holds := fun ev _ _ => isEvent .userHalt ev
  newState := .halt
  actions := fun _ => [stop]

/-- DR01 (R261). Halt; UserStartup, LineConnected; to IStart; ResetVariables, SendStrt, StopTimer. -/
def dr01 (kick : State → Flow) : Rule where
  state := some .halt
  holds := fun ev _ s => isEvent .userStartup ev && lineConnected s
  newState := .iStart
  actions := fun _ => [act resetVariables, sendStrt kick, stop]

/-- DR02 (R262). State ANY; UserMaintenanceMode; to Maintenance; StopTimer. -/
def dr02 : Rule where
  state := none
  holds := fun ev _ _ => isEvent .userMaintenanceMode ev
  newState := .maintenance
  actions := fun _ => [stop]

/-- DR03 (R263). Maintenance; ReceiveMaintMsg; DeliverMaintToHost. -/
def dr03 : Rule where
  state := some .maintenance
  holds := fun _ pkt _ => receives .maint pkt
  newState := .maintenance
  actions := fun pkt => [onPacket pkt fun p s => .go (deliverMaintToHost p s)]

/-- DR04 (R264). State ANY; ReceiveMaintMsg; to Maintenance; StopTimer, NotifyMaintReceived. -/
def dr04 : Rule where
  state := none
  holds := fun _ pkt _ => receives .maint pkt
  newState := .maintenance
  actions := fun _ => [stop, act notifyMaintReceived]

/-- DR05 (R265). Maintenance; XmitIdle, UserMessageQueued; SendMaintMessage. -/
def dr05 (kick : State → Flow) : Rule where
  state := some .maintenance
  holds := fun _ _ s => xmitIdle s && userMessageQueued s
  newState := .maintenance
  actions := fun _ => [sendMaintMessage kick]

/-- DR06 (R266). IStart; TimerExpired; SendStrt. -/
def dr06 (kick : State → Flow) : Rule where
  state := some .iStart
  holds := fun ev _ _ => isEvent .timerExpired ev
  newState := .iStart
  actions := fun _ => [sendStrt kick]

/-- DR07 (R267). IStart; ReceiveStack; to Run; SetSACK, StopTimer. -/
def dr07 : Rule where
  state := some .iStart
  holds := fun _ pkt _ => receives .stack pkt
  newState := .run
  actions := fun _ => [act setSACK, stop]

/-- DR08 (R268). IStart; ReceiveStrt; to AStart; SendStack, StartTimer. -/
def dr08 (kick : State → Flow) : Rule where
  state := some .iStart
  holds := fun _ pkt _ => receives .strt pkt
  newState := .aStart
  actions := fun _ => [sendStack kick, start]

/-- DR09 (R269). IStart; TimerNotRunning; StartTimer. -/
def dr09 : Rule where
  state := some .iStart
  holds := fun _ _ s => timerNotRunning s
  newState := .iStart
  actions := fun _ => [start]

/-- DR10 (R270). AStart; ReceiveAck or ReceiveDataMsg or ReceiveStack; to Run; StopTimer. -/
def dr10 : Rule where
  state := some .aStart
  holds := fun _ pkt _ => receives .ack pkt || receives .data pkt || receives .stack pkt
  newState := .run
  actions := fun _ => [stop]

/-- DR11 (R271). AStart; ReceiveStrt; SendStack, StartTimer. -/
def dr11 (kick : State → Flow) : Rule where
  state := some .aStart
  holds := fun _ pkt _ => receives .strt pkt
  newState := .aStart
  actions := fun _ => [sendStack kick, start]

/-- DR12 (R272). AStart; TimerExpired; SendStack, StartTimer. -/
def dr12 (kick : State → Flow) : Rule where
  state := some .aStart
  holds := fun ev _ _ => isEvent .timerExpired ev
  newState := .aStart
  actions := fun _ => [sendStack kick, start]

/-- DR13 (R273). Run; LineDisconnected; to Halt; StopTimer, NotifyDisconnect, ClearStartReceived, RequeueAckWait. -/
def dr13 : Rule where
  state := some .run
  holds := fun _ _ s => lineDisconnected s
  newState := .halt
  actions := fun _ => [stop, act notifyDisconnect, act clearStartReceived, act requeueAckWait]

/-- DR14 (R274). Run; ReceiveStrt; to Halt; StopTimer, NotifyStartReceived, RequeueAckWait. -/
def dr14 : Rule where
  state := some .run
  holds := fun _ pkt _ => receives .strt pkt
  newState := .halt
  actions := fun _ => [stop, act notifyStartReceived, act requeueAckWait]

/-- DR15 (R275). Run; ReceiveDataMsg, NUM = inc(R); GiveBufferToUser. -/
def dr15 : Rule where
  state := some .run
  holds := fun _ pkt s => receives .data pkt && packetHas pkt fun p => seqEQ p.num (inc s.link.r)
  newState := .run
  actions := fun pkt => [onPacket pkt fun p s => .go (giveBufferToUser p s)]

/-- DR16 (R276). Run; ReceiveDataMsg, GT(NUM, inc(R)); NakMissing. -/
def dr16 (kick : State → Flow) : Rule where
  state := some .run
  holds := fun _ pkt s => receives .data pkt && packetHas pkt fun p => seqGT s.cfg.window p.num (inc s.link.r)
  newState := .run
  actions := fun pkt => [onPacket pkt fun p => nakMissing kick p.num]

/-- DR17 (R277). Run; ReceiveMessageError; SetSNAKFromError. -/
def dr17 : Rule where
  state := some .run
  holds := fun _ pkt _ => receiveMessageError pkt
  newState := .run
  actions := fun pkt => [onError pkt fun reason s => .go (setSNAKFromError reason s)]

/-- DR18 (R278). Run; ReceiveAck or ReceiveDataMsg, LT(A, RESP), LE(RESP, N); CompleteAcked, BumpT, StopTimerIfAGeX. -/
def dr18 : Rule where
  state := some .run
  holds := fun _ pkt s => (receives .ack pkt || receives .data pkt) &&
      packetHas pkt fun p => seqLT s.cfg.window s.link.a p.resp && seqLE s.cfg.window p.resp s.link.n
  newState := .run
  actions := fun pkt => [onPacket pkt fun p s => .go (completeAcked p.resp s), act bumpT, act stopTimerIfAGeX]

/-- DR19 (R279). Run; ReceiveNak, LE(A, RESP), LE(RESP, N); CompleteAcked, SetTToAplus1, StopTimer. -/
def dr19 : Rule where
  state := some .run
  holds := fun _ pkt s => receives .nak pkt &&
      packetHas pkt fun p => seqLE s.cfg.window s.link.a p.resp && seqLE s.cfg.window p.resp s.link.n
  newState := .run
  actions := fun pkt => [onPacket pkt fun p s => .go (completeAcked p.resp s), act setTToAplus1, stop]

/-- DR20 (R280). Run; ReceiveRep, NUM = R; SetSACK. -/
def dr20 : Rule where
  state := some .run
  holds := fun _ pkt s => receives .rep pkt && packetHas pkt fun p => seqEQ p.num s.link.r
  newState := .run
  actions := fun _ => [act setSACK]

/-- DR21 (R281). Run; ReceiveRep, NUM != R; SetSNAK(3). -/
def dr21 : Rule where
  state := some .run
  holds := fun _ pkt s => receives .rep pkt && packetHas pkt fun p => seqNE p.num s.link.r
  newState := .run
  actions := fun _ => [act (setSNAK nakRepResp)]

/-- DR22 (R282). Run; TimerExpired; SetSREP. -/
def dr22 : Rule where
  state := some .run
  holds := fun ev _ _ => isEvent .timerExpired ev
  newState := .run
  actions := fun _ => [act setSREP]

/-- DR23 (R283). Run; DataMessageSent; SetXToSentNum, StartOrStopTimerByAX. -/
def dr23 : Rule where
  state := some .run
  holds := fun ev _ s => dataMessageSent ev s
  newState := .run
  actions := fun _ => [act setXToSentNum, act startOrStopTimerByAX]

/-- DR24 (R284). Run; XmitIdle, SNAK set; SendNak, ClearSNAK. -/
def dr24 (kick : State → Flow) : Rule where
  state := some .run
  holds := fun _ _ s => xmitIdle s && snakSet s
  newState := .run
  actions := fun _ => [sendNak kick, act clearSNAK]

/-- DR25 (R285). Run; XmitIdle, SNAK clear, SREP set; SendRep, ClearSREP, StartTimer. -/
def dr25 (kick : State → Flow) : Rule where
  state := some .run
  holds := fun _ _ s => xmitIdle s && !snakSet s && srepSet s
  newState := .run
  actions := fun _ => [sendRep kick, act clearSREP, start]

/-- DR26 (R286). Run; XmitIdle, SNAK clear, SREP clear, LT(T, inc(N)); RetransmitT, ClearSACK. -/
def dr26 (kick : State → Flow) : Rule where
  state := some .run
  holds := fun _ _ s => xmitIdle s && !snakSet s && !srepSet s && tBehindNextNew s
  newState := .run
  actions := fun _ => [retransmitT kick, act clearSACK]

/-- DR27 (R287). Run; UserMessageQueued, T = inc(N), XmitIdle, SNAK clear, SREP clear, AckWaitNotFull; SendNewData, ClearSACK. -/
def dr27 (kick : State → Flow) : Rule where
  state := some .run
  holds := fun _ _ s => userMessageQueued s && tIsNextNew s && xmitIdle s && !snakSet s && !srepSet s && ackWaitNotFull s
  newState := .run
  actions := fun _ => [sendNewData kick, act clearSACK]

/-- DR28 (R288). Run; XmitIdle, SACK set, T = inc(N); SendAck, ClearSACK. -/
def dr28 (kick : State → Flow) : Rule where
  state := some .run
  holds := fun _ _ s => xmitIdle s && sackSet s && tIsNextNew s
  newState := .run
  actions := fun _ => [sendAck kick, act clearSACK]

/-- The table in scan order (R290). -/
def ruleTable (kick : State → Flow) : List Rule :=
  [dr00, dr01 kick, dr02, dr03, dr04, dr05 kick, dr06 kick, dr07, dr08 kick, dr09, dr10, dr11 kick, dr12 kick,
   dr13, dr14, dr15, dr16 kick, dr17, dr18, dr19, dr20, dr21, dr22, dr23, dr24 kick, dr25 kick, dr26 kick,
   dr27 kick, dr28 kick]

end Sys2Proof.Machine
end

