-- ==== Sys2Proof/Machine/Engine.lean ====
section
/-! DEFINITION. The dispatcher (R214 to R221) and the operations that call it from outside a dispatch: `tx_kick` and
`transmit_complete` (R311, R312), `tick` (R202), the receive path (R316), and the host's and the transport's calls
(48_interfaces.md). -/

namespace Sys2Proof.Machine

/-- The part of a scan from table position `k` on (R217): the first entry that matches fires, and none is what a scan
that reaches the end answers. Testing an entry changes nothing but `scan_index` (R23). -/
def scanFrom (ev : Option EventKind) (pkt : Option RxPkt) (s : State) : Nat → List Rule → Option Flow
  | _, [] => none
  | k, r :: rest =>
    if r.applies ev pkt s then some (r.fire pkt { s with disp.scanIndex := k }) else scanFrom ev pkt s (k + 1) rest

/-- One scan (R217), as it runs inside a dispatch. -/
def scan (ev : Option EventKind) (s : State) : Option Flow :=
  scanFrom ev (scanPacket ev s) s 0 (ruleTable kickInDispatch)

/-- The next scan's event is taken from `pending` (R216). -/
def takePending (e : EventKind) (s : State) : State :=
  let p := pendingSet s.disp.pending e false
  { s with disp.pending := p, disp.recurseScan := (pendingFirst p).isSome }

/-- The dispatch loop (R216): scan; then the pending event of the highest priority; else, after a firing, a scan with
no event; else leave. The number bounds the scans (`budget`). -/
def dispatchLoop : Nat → Option EventKind → State → Flow
  | 0, _, _ => .overrun
  | n + 1, ev, s =>
    let s0 := { s with disp.curEvent := ev }
    match scan ev s0 with
    | some (.ended s1) => .ended s1
    | some .overrun => .overrun
    | some (.go s1) =>
      match pendingFirst s1.disp.pending with
      | some e => dispatchLoop n (some e) (takePending e s1)
      | none => dispatchLoop n none s1
    | none =>
      match pendingFirst s0.disp.pending with
      | some e => dispatchLoop n (some e) (takePending e s0)
      | none => .go (leaveDispatch s0)

/-- More scans, and more completions, than a step can have (log 16): each firing of a level rule uses up a queued
buffer, a latch, the timer, or one of the 256 positions of T, and what restores those are at most eight events and one
packet for each listed answer (R220, R378). -/
def budget (s : State) : Nat :=
  40 * (s.pool.transmit.length + s.pool.ackWait.length + 300) * (s.env.answers.length + 1) + s.tx.fifo.length

/-- `Dispatch(e)` (R215, R216). -/
def dispatch (e : EventKind) (s : State) : Flow :=
  if s.latch.fatal then .go s
  else if s.disp.scanning then .go (postEvent e s)
  else dispatchLoop (budget s) (some e) (enterDispatch s)

/-- `on_receive(bytes)` (R316, R323). -/
def onReceive (bytes : List Byte) (s : State) : Flow :=
  if s.latch.fatal then .go s
  else
    let h := heard bytes s
    match h.1 with
    | some rx => dispatch .packetReceived { h.2 with tx.rxPkt := some rx }
    | none => .go h.2

/-- `tx_kick` while no dispatch runs (R311, R312): the frames the transport delivers inside `send` are received with the item
in flight (R378), a completion inside `send` is dispatched, then the next frame is offered. The number bounds the frames
that can leave. -/
def kickIdle : Nat → State → Flow
  | 0, _ => .overrun
  | n + 1, s =>
    if s.tx.inflight.isSome then .go s
    else
      match s.tx.fifo with
      | [] => .go s
      | item :: rest =>
        let r := offerFrame item.bytes s
        match r.1 with
        | .refused => .go r.2
        | .acceptedLater => .go (takeFlight item rest r.2)
        | .acceptedNow => (dispatch .transmitDone (landFlight item (takeFlight item rest r.2))).andThen (kickIdle n)
        | .acceptedReceiving frames completes =>
          (runActions (frames.map onReceive) (takeFlight item rest r.2)).andThen fun s1 =>
            if completes then (dispatch .transmitDone (landFlight item s1)).andThen (kickIdle n) else .go s1

/-- `tx_kick()` (R311), wherever it is called. -/
def txKick (s : State) : Flow := if s.disp.scanning then kickInDispatch s else kickIdle (budget s) s

/-- `transmit_complete()` (R312). -/
def transmitComplete (s : State) : Flow :=
  match s.tx.inflight with
  | none => .go s
  | some item => (dispatch .transmitDone (landFlight item s)).andThen txKick

/-- `tick` after its kick (R202): the count falls by one, and at zero the running flag falls and the event is
dispatched (R203). -/
def tickTimer (s : State) : Flow :=
  if s.timer.running then
    if s.timer.remaining - 1 = 0 then
      dispatch .timerExpired { s with timer := { running := false, remaining := 0 } }
    else .go { s with timer.remaining := s.timer.remaining - 1 }
  else .go s

/-- `tick` (R202). -/
def tick (s : State) : Flow := if s.latch.fatal then .go s else (txKick s).andThen tickTimer

/-- `on_transmit_complete()` (R317). -/
def onTransmitComplete (s : State) : Flow := if s.latch.fatal then .go s else transmitComplete s

/-- `on_line_status_change(connected)` (R318). -/
def onLineStatusChange (connected : Bool) (s : State) : Flow :=
  if s.latch.fatal then .go s else dispatch .lineStatusChange { s with link.lineConnected := connected }

/-- A buffer the host hands over: a descriptor from `free`, its fields, a place at a queue's tail, and the dispatch of
`HostQueueChange`; the handle is the answer of the call that runs to its end (R301, R302). -/
def acceptBuffer (k : BufferKind) (q : HandleQueue) (address length : Nat) (eom : Bool) (s : State) : Flow :=
  match alloc k s with
  | none => .ended (raiseFatal .poolExhausted s)
  | some (h, s1) =>
    let s2 := setDesc h (fun d => { d with address := address, length := BitVec.ofNat 14 length, eom := eom }) s1
    (dispatch .hostQueueChange (enqueue (.handleIn q h) s2).2).andThen fun s3 => .go (answer (.handle h) s3)

/-- `assign_receive_buffer(address, length)` (R301, R303). -/
def assignReceiveBuffer (address length : Nat) (s : State) : Flow :=
  if s.latch.fatal || !s.latch.rxAccept || decide (16383 < length) then .go (answer .refused s)
  else acceptBuffer .receive .receive address length false (answer .none s)

/-- `enqueue_transmit_buffer(address, length, end_of_message)` (R302, R303, R304). -/
def enqueueTransmitBuffer (address length : Nat) (eom : Bool) (s : State) : Flow :=
  if s.latch.fatal || !s.latch.txAccept || decide (16383 < length) then .go (answer .refused s)
  else acceptBuffer .transmitData .transmit address length eom (answer .none s)

/-- Buffers handed back to the host unfilled or unsent, first one first (R305, R306). -/
def killAll (code : EventCode) (l : List Handle) (s : State) : State := l.foldl (fun acc h => complete h 0 code acc) s

/-- The answer of a host request that was performed, given once it has run to its end (R300; log 17). -/
def performed (f : Flow) : Flow := f.andThen fun s => .go (answer (.flag true) s)

/-- `kill_receive_buffers(enable)` (R305). -/
def killReceiveBuffers (enable : Bool) (s : State) : Flow :=
  if s.latch.fatal then .go (answer (.flag false) s)
  else
    let s1 := killAll .rxBufferKilled s.pool.receive { answer .none s with pool.receive := [] }
    performed (dispatch .hostQueueChange { s1 with latch.rxAccept := enable })

/-- `kill_transmit_buffers(enable)` (R306): `ack_wait` first. -/
def killTransmitBuffers (enable : Bool) (s : State) : Flow :=
  if s.latch.fatal then .go (answer (.flag false) s)
  else
    let s1 := killAll .txBufferKilled (s.pool.ackWait ++ s.pool.transmit)
      { answer .none s with pool.ackWait := [], pool.transmit := [] }
    performed (dispatch .hostQueueChange { s1 with latch.txAccept := enable })

/-- `set_line_enabled(enabled)` (R307): a level forwarded to the transport; no event. -/
def setLineEnabled (enabled : Bool) (s : State) : Flow :=
  if s.latch.fatal then .go (answer (.flag false) s)
  else performed (.go { s with env.lineEnable := enabled })

/-- `user_startup`, `user_halt`, `user_maintenance` (R308). -/
def userRequest (e : EventKind) (s : State) : Flow :=
  if s.latch.fatal then .go (answer (.flag false) s) else performed (dispatch e (answer .none s))

/-- `host_pickup()` (R309). -/
def hostPickup (s : State) : State :=
  match s.pool.completion with
  | [] => answer (.pickup none) s
  | r :: rest =>
    let s1 := { s with pool.completion := rest }
    let s2 := match r.buffer with
      | some h => release h s1
      | none => s1
    answer (.pickup (some r)) s2

/-- The test and, where it matches, the firing of one entry outside the loop: `cur_event` is the scan's event (R217). While
`fatal = 1` there is no scan and nothing fires (R215, R346). -/
def tryRule (r : Rule) (s : State) : Flow :=
  let ev := s.disp.curEvent
  let pkt := scanPacket ev s
  if !s.latch.fatal && r.applies ev pkt s then r.fire pkt (answer (.flag true) s) else .go (answer (.flag false) s)

/-- An operation of the transmitter agent, or an action that stages or discards frames, given on its own: while `fatal = 1`,
"`tx_fifo` is frozen" (R346; log 19). -/
def unlessFatal (f : State → Flow) (s : State) : Flow := if s.latch.fatal then .go s else f s

end Sys2Proof.Machine
end

