-- ==== Sys2Proof/Machine/ActionOps.lean ====
section
/-! DEFINITION. Meanings: the actions as instructions (R230 to R256), with the `tx_kick` of wherever they run. Those that
stage or discard frames leave `tx_fifo` as it is while `fatal = 1` (R346). -/

namespace Sys2Proof.Machine

/-- `SendControl` (R231). -/
def execSendControl (bytes : List Byte) (s : State) : Host.Outcome State Fault Refusal :=
  (unlessFatal (Sys2Proof.Machine.sendControl Sys2Proof.Machine.txKick bytes) s).outcome

/-- `ResetVariables` (R232). -/
def execResetVariables (s : State) : Host.Outcome State Fault Refusal :=
  (unlessFatal (act Sys2Proof.Machine.resetVariables) s).outcome

/-- `SetSACK` (R233). -/
def execSetSACK (s : State) : Host.Outcome State Fault Refusal :=
  .next (Sys2Proof.Machine.setSACK s)

/-- `SetSNAK` (R234). -/
def execSetSNAK (r : BitVec 6) (s : State) : Host.Outcome State Fault Refusal :=
  .next (Sys2Proof.Machine.setSNAK r s)

/-- `ClearSNAK` (R235). -/
def execClearSNAK (s : State) : Host.Outcome State Fault Refusal :=
  .next (Sys2Proof.Machine.clearSNAK s)

/-- `SetSREP` (R236). -/
def execSetSREP (s : State) : Host.Outcome State Fault Refusal :=
  .next (Sys2Proof.Machine.setSREP s)

/-- `ClearSREP` (R236). -/
def execClearSREP (s : State) : Host.Outcome State Fault Refusal :=
  .next (Sys2Proof.Machine.clearSREP s)

/-- `ClearSACK` (R237). -/
def execClearSACK (s : State) : Host.Outcome State Fault Refusal :=
  .next (Sys2Proof.Machine.clearSACK s)

/-- `SetSNAKFromError` (R238). -/
def execSetSNAKFromError (reason : BitVec 6) (s : State) : Host.Outcome State Fault Refusal :=
  .next (Sys2Proof.Machine.setSNAKFromError reason s)

/-- `SendStrt` (R239). -/
def execSendStrt (s : State) : Host.Outcome State Fault Refusal :=
  (unlessFatal (Sys2Proof.Machine.sendStrt Sys2Proof.Machine.txKick) s).outcome

/-- `SendStack` (R240). -/
def execSendStack (s : State) : Host.Outcome State Fault Refusal :=
  (unlessFatal (Sys2Proof.Machine.sendStack Sys2Proof.Machine.txKick) s).outcome

/-- `CompleteAcked` (R241). -/
def execCompleteAcked (pkt : Packet) (s : State) : Host.Outcome State Fault Refusal :=
  .next (Sys2Proof.Machine.completeAcked pkt.resp s)

/-- `BumpT` (R242). -/
def execBumpT (s : State) : Host.Outcome State Fault Refusal :=
  .next (Sys2Proof.Machine.bumpT s)

/-- `SetTToAplus1` (R242). -/
def execSetTToAplus1 (s : State) : Host.Outcome State Fault Refusal :=
  .next (Sys2Proof.Machine.setTToAplus1 s)

/-- `StopTimerIfAGeX` (R243). -/
def execStopTimerIfAGeX (s : State) : Host.Outcome State Fault Refusal :=
  .next (Sys2Proof.Machine.stopTimerIfAGeX s)

/-- `GiveBufferToUser` (R244). -/
def execGiveBufferToUser (pkt : Packet) (s : State) : Host.Outcome State Fault Refusal :=
  .next (Sys2Proof.Machine.giveBufferToUser pkt s)

/-- `SendNewData` (R245). -/
def execSendNewData (s : State) : Host.Outcome State Fault Refusal :=
  (unlessFatal (Sys2Proof.Machine.sendNewData Sys2Proof.Machine.txKick) s).outcome

/-- `RetransmitT` (R246). -/
def execRetransmitT (s : State) : Host.Outcome State Fault Refusal :=
  (unlessFatal (Sys2Proof.Machine.retransmitT Sys2Proof.Machine.txKick) s).outcome

/-- `SendAck` (R247). -/
def execSendAck (s : State) : Host.Outcome State Fault Refusal :=
  (unlessFatal (Sys2Proof.Machine.sendAck Sys2Proof.Machine.txKick) s).outcome

/-- `SendNak` (R248). -/
def execSendNak (s : State) : Host.Outcome State Fault Refusal :=
  (unlessFatal (Sys2Proof.Machine.sendNak Sys2Proof.Machine.txKick) s).outcome

/-- `SendRep` (R249). -/
def execSendRep (s : State) : Host.Outcome State Fault Refusal :=
  (unlessFatal (Sys2Proof.Machine.sendRep Sys2Proof.Machine.txKick) s).outcome

/-- `NakMissing` (R250). -/
def execNakMissing (pkt : Packet) (s : State) : Host.Outcome State Fault Refusal :=
  (unlessFatal (Sys2Proof.Machine.nakMissing Sys2Proof.Machine.txKick pkt.num) s).outcome

/-- `SetXToSentNum` (R251). -/
def execSetXToSentNum (s : State) : Host.Outcome State Fault Refusal :=
  .next (Sys2Proof.Machine.setXToSentNum s)

/-- `StartOrStopTimerByAX` (R251). -/
def execStartOrStopTimerByAX (s : State) : Host.Outcome State Fault Refusal :=
  .next (Sys2Proof.Machine.startOrStopTimerByAX s)

/-- `NotifyDisconnect` (R252). -/
def execNotifyDisconnect (s : State) : Host.Outcome State Fault Refusal :=
  .next (Sys2Proof.Machine.notifyDisconnect s)

/-- `NotifyStartReceived` (R252). -/
def execNotifyStartReceived (s : State) : Host.Outcome State Fault Refusal :=
  .next (Sys2Proof.Machine.notifyStartReceived s)

/-- `NotifyMaintReceived` (R252). -/
def execNotifyMaintReceived (s : State) : Host.Outcome State Fault Refusal :=
  .next (Sys2Proof.Machine.notifyMaintReceived s)

/-- `ClearStartReceived` (R253). -/
def execClearStartReceived (s : State) : Host.Outcome State Fault Refusal :=
  .next (Sys2Proof.Machine.clearStartReceived s)

/-- `DeliverMaintToHost` (R255). -/
def execDeliverMaintToHost (pkt : Packet) (s : State) : Host.Outcome State Fault Refusal :=
  .next (Sys2Proof.Machine.deliverMaintToHost pkt s)

/-- `SendMaintMessage` (R256). -/
def execSendMaintMessage (s : State) : Host.Outcome State Fault Refusal :=
  (unlessFatal (Sys2Proof.Machine.sendMaintMessage Sys2Proof.Machine.txKick) s).outcome

end Sys2Proof.Machine
end

