-- ==== Sys2Proof/Machine/CodecOps.lean ====
section
/-! DEFINITION. Meanings: the codec operations as instructions: pure functions of their operands (R68, R140). -/

namespace Sys2Proof.Machine

/-- `crc16(seed, s)` (R110): the operation changes no state but its answer. -/
def execCrc16 (seed : Word16) (bs : List Byte) (s : State) : Host.Outcome State Fault Refusal :=
  .next (answer (.word (Sys2Proof.Machine.crc16 seed bs)) s)

/-- `header(b0, b1, b2, b3, b4)` (R120). -/
def execHeader (b0 b1 b2 b3 b4 : Byte) (s : State) : Host.Outcome State Fault Refusal :=
  .next (answer (.bytes (Sys2Proof.Machine.header b0 b1 b2 b3 b4)) s)

/-- `trailer(p)` (R129). -/
def execTrailer (p : List Byte) (s : State) : Host.Outcome State Fault Refusal :=
  .next (answer (.bytes (Sys2Proof.Machine.trailer p)) s)

/-- `build_data` (R121). -/
def execBuildData (buf : List Byte) (len : BitVec 14) (flags : BitVec 2) (num resp : Byte) (s : State) : Host.Outcome State Fault Refusal :=
  .next (answer (.bytes (Sys2Proof.Machine.buildData buf len flags num resp)) s)

/-- `build_ack` (R122). -/
def execBuildAck (resp : Byte) (flags : BitVec 2) (s : State) : Host.Outcome State Fault Refusal :=
  .next (answer (.bytes (Sys2Proof.Machine.buildAck resp flags)) s)

/-- `build_nak` (R123). -/
def execBuildNak (reason : BitVec 6) (resp : Byte) (flags : BitVec 2) (s : State) : Host.Outcome State Fault Refusal :=
  .next (answer (.bytes (Sys2Proof.Machine.buildNak reason resp flags)) s)

/-- `build_rep` (R124). -/
def execBuildRep (num : Byte) (flags : BitVec 2) (s : State) : Host.Outcome State Fault Refusal :=
  .next (answer (.bytes (Sys2Proof.Machine.buildRep num flags)) s)

/-- `build_start` (R125). -/
def execBuildStart (flags : BitVec 2) (s : State) : Host.Outcome State Fault Refusal :=
  .next (answer (.bytes (Sys2Proof.Machine.buildStart flags)) s)

/-- `build_start_ack` (R126). -/
def execBuildStartAck (flags : BitVec 2) (s : State) : Host.Outcome State Fault Refusal :=
  .next (answer (.bytes (Sys2Proof.Machine.buildStartAck flags)) s)

/-- `build_maintenance` (R127). -/
def execBuildMaintenance (len : BitVec 14) (s : State) : Host.Outcome State Fault Refusal :=
  .next (answer (.bytes (Sys2Proof.Machine.buildMaintenance len)) s)

/-- `parse(bytes)` (R141). -/
def execParse (bytes : List Byte) (s : State) : Host.Outcome State Fault Refusal :=
  .next (answer (.parsed (Sys2Proof.Machine.parse bytes)) s)

end Sys2Proof.Machine
end

