-- ==== Sys2Proof/Machine/DispatchOps.lean ====
section
/-! DEFINITION. Meanings: the entries of the dispatch table as instructions (47_dispatch_rules.md). -/

namespace Sys2Proof.Machine

/-- DR00 (R260): tested against `cur_event`, the packet and the link state, and fired where it matches. -/
def execDr00 (s : State) : Host.Outcome State Fault Refusal :=
  (tryRule Sys2Proof.Machine.dr00 s).outcome

/-- DR01 (R261): tested against `cur_event`, the packet and the link state, and fired where it matches. -/
def execDr01 (s : State) : Host.Outcome State Fault Refusal :=
  (tryRule (Sys2Proof.Machine.dr01 Sys2Proof.Machine.txKick) s).outcome

/-- DR02 (R262): tested against `cur_event`, the packet and the link state, and fired where it matches. -/
def execDr02 (s : State) : Host.Outcome State Fault Refusal :=
  (tryRule Sys2Proof.Machine.dr02 s).outcome

/-- DR03 (R263): tested against `cur_event`, the packet and the link state, and fired where it matches. -/
def execDr03 (s : State) : Host.Outcome State Fault Refusal :=
  (tryRule Sys2Proof.Machine.dr03 s).outcome

/-- DR04 (R264): tested against `cur_event`, the packet and the link state, and fired where it matches. -/
def execDr04 (s : State) : Host.Outcome State Fault Refusal :=
  (tryRule Sys2Proof.Machine.dr04 s).outcome

/-- DR05 (R265): tested against `cur_event`, the packet and the link state, and fired where it matches. -/
def execDr05 (s : State) : Host.Outcome State Fault Refusal :=
  (tryRule (Sys2Proof.Machine.dr05 Sys2Proof.Machine.txKick) s).outcome

/-- DR06 (R266): tested against `cur_event`, the packet and the link state, and fired where it matches. -/
def execDr06 (s : State) : Host.Outcome State Fault Refusal :=
  (tryRule (Sys2Proof.Machine.dr06 Sys2Proof.Machine.txKick) s).outcome

/-- DR07 (R267): tested against `cur_event`, the packet and the link state, and fired where it matches. -/
def execDr07 (s : State) : Host.Outcome State Fault Refusal :=
  (tryRule Sys2Proof.Machine.dr07 s).outcome

/-- DR08 (R268): tested against `cur_event`, the packet and the link state, and fired where it matches. -/
def execDr08 (s : State) : Host.Outcome State Fault Refusal :=
  (tryRule (Sys2Proof.Machine.dr08 Sys2Proof.Machine.txKick) s).outcome

/-- DR09 (R269): tested against `cur_event`, the packet and the link state, and fired where it matches. -/
def execDr09 (s : State) : Host.Outcome State Fault Refusal :=
  (tryRule Sys2Proof.Machine.dr09 s).outcome

/-- DR10 (R270): tested against `cur_event`, the packet and the link state, and fired where it matches. -/
def execDr10 (s : State) : Host.Outcome State Fault Refusal :=
  (tryRule Sys2Proof.Machine.dr10 s).outcome

/-- DR11 (R271): tested against `cur_event`, the packet and the link state, and fired where it matches. -/
def execDr11 (s : State) : Host.Outcome State Fault Refusal :=
  (tryRule (Sys2Proof.Machine.dr11 Sys2Proof.Machine.txKick) s).outcome

/-- DR12 (R272): tested against `cur_event`, the packet and the link state, and fired where it matches. -/
def execDr12 (s : State) : Host.Outcome State Fault Refusal :=
  (tryRule (Sys2Proof.Machine.dr12 Sys2Proof.Machine.txKick) s).outcome

/-- DR13 (R273): tested against `cur_event`, the packet and the link state, and fired where it matches. -/
def execDr13 (s : State) : Host.Outcome State Fault Refusal :=
  (tryRule Sys2Proof.Machine.dr13 s).outcome

/-- DR14 (R274): tested against `cur_event`, the packet and the link state, and fired where it matches. -/
def execDr14 (s : State) : Host.Outcome State Fault Refusal :=
  (tryRule Sys2Proof.Machine.dr14 s).outcome

/-- DR15 (R275): tested against `cur_event`, the packet and the link state, and fired where it matches. -/
def execDr15 (s : State) : Host.Outcome State Fault Refusal :=
  (tryRule Sys2Proof.Machine.dr15 s).outcome

/-- DR16 (R276): tested against `cur_event`, the packet and the link state, and fired where it matches. -/
def execDr16 (s : State) : Host.Outcome State Fault Refusal :=
  (tryRule (Sys2Proof.Machine.dr16 Sys2Proof.Machine.txKick) s).outcome

/-- DR17 (R277): tested against `cur_event`, the packet and the link state, and fired where it matches. -/
def execDr17 (s : State) : Host.Outcome State Fault Refusal :=
  (tryRule Sys2Proof.Machine.dr17 s).outcome

/-- DR18 (R278): tested against `cur_event`, the packet and the link state, and fired where it matches. -/
def execDr18 (s : State) : Host.Outcome State Fault Refusal :=
  (tryRule Sys2Proof.Machine.dr18 s).outcome

/-- DR19 (R279): tested against `cur_event`, the packet and the link state, and fired where it matches. -/
def execDr19 (s : State) : Host.Outcome State Fault Refusal :=
  (tryRule Sys2Proof.Machine.dr19 s).outcome

/-- DR20 (R280): tested against `cur_event`, the packet and the link state, and fired where it matches. -/
def execDr20 (s : State) : Host.Outcome State Fault Refusal :=
  (tryRule Sys2Proof.Machine.dr20 s).outcome

/-- DR21 (R281): tested against `cur_event`, the packet and the link state, and fired where it matches. -/
def execDr21 (s : State) : Host.Outcome State Fault Refusal :=
  (tryRule Sys2Proof.Machine.dr21 s).outcome

/-- DR22 (R282): tested against `cur_event`, the packet and the link state, and fired where it matches. -/
def execDr22 (s : State) : Host.Outcome State Fault Refusal :=
  (tryRule Sys2Proof.Machine.dr22 s).outcome

/-- DR23 (R283): tested against `cur_event`, the packet and the link state, and fired where it matches. -/
def execDr23 (s : State) : Host.Outcome State Fault Refusal :=
  (tryRule Sys2Proof.Machine.dr23 s).outcome

/-- DR24 (R284): tested against `cur_event`, the packet and the link state, and fired where it matches. -/
def execDr24 (s : State) : Host.Outcome State Fault Refusal :=
  (tryRule (Sys2Proof.Machine.dr24 Sys2Proof.Machine.txKick) s).outcome

/-- DR25 (R285): tested against `cur_event`, the packet and the link state, and fired where it matches. -/
def execDr25 (s : State) : Host.Outcome State Fault Refusal :=
  (tryRule (Sys2Proof.Machine.dr25 Sys2Proof.Machine.txKick) s).outcome

/-- DR26 (R286): tested against `cur_event`, the packet and the link state, and fired where it matches. -/
def execDr26 (s : State) : Host.Outcome State Fault Refusal :=
  (tryRule (Sys2Proof.Machine.dr26 Sys2Proof.Machine.txKick) s).outcome

/-- DR27 (R287): tested against `cur_event`, the packet and the link state, and fired where it matches. -/
def execDr27 (s : State) : Host.Outcome State Fault Refusal :=
  (tryRule (Sys2Proof.Machine.dr27 Sys2Proof.Machine.txKick) s).outcome

/-- DR28 (R288): tested against `cur_event`, the packet and the link state, and fired where it matches. -/
def execDr28 (s : State) : Host.Outcome State Fault Refusal :=
  (tryRule (Sys2Proof.Machine.dr28 Sys2Proof.Machine.txKick) s).outcome

/-- The default (R219, R289): where no entry matches, nothing happens. The answer says whether none matched (log 13); while
`fatal = 1` none does (R215, R346). -/
def execDrDefault (s : State) : Host.Outcome State Fault Refusal :=
  let ev := s.disp.curEvent
  .next (answer (.flag (s.latch.fatal || (ruleTable Sys2Proof.Machine.txKick).all fun r => !r.applies ev (scanPacket ev s) s)) s)

end Sys2Proof.Machine
end

