-- ==== Sys2Proof/Machine/EngineOps.lean ====
section
/-! DEFINITION. Meanings: `Dispatch` as an instruction. -/

namespace Sys2Proof.Machine

/-- `Dispatch(event)` (R215, R216). -/
def execDispatch (e : EventKind) (s : State) : Host.Outcome State Fault Refusal :=
  (Sys2Proof.Machine.dispatch e s).outcome

end Sys2Proof.Machine
end

