-- ==== Sys2Proof/Machine/Frames.lean ====
section
/-! DEFINITION. Meanings: the seven wire frame kinds as instructions: the engine receives the frame (30_encoding.md, R316). Every check of R141 is made on the bytes the encoder writes for it. -/

namespace Sys2Proof.Machine

/-- Receiving a DATA frame: what the table does with it is DR10, DR15, DR16, DR18 and the default (R88, R316). -/
def execData (h : DataHeader) (payload : List Byte) (dcrc : Word16) (s : State) : Host.Outcome State Fault Refusal :=
  (onReceive (encodeData typeSOH h payload dcrc) s).outcome

/-- Receiving a MAINT frame: DR03, DR04 (R98, R316). -/
def execMaint (h : DataHeader) (payload : List Byte) (dcrc : Word16) (s : State) : Host.Outcome State Fault Refusal :=
  (onReceive (encodeData typeDLE h payload dcrc) s).outcome

/-- Receiving an ACK frame: DR10, DR18 (R93, R316). -/
def execAck (h : ControlHeader) (s : State) : Host.Outcome State Fault Refusal :=
  (onReceive (encodeControl ctlAck h) s).outcome

/-- Receiving a NAK frame: DR19 (R94, R316). -/
def execNak (h : ControlHeader) (s : State) : Host.Outcome State Fault Refusal :=
  (onReceive (encodeControl ctlNak h) s).outcome

/-- Receiving a REP frame: DR20, DR21 (R95, R316). -/
def execRep (h : ControlHeader) (s : State) : Host.Outcome State Fault Refusal :=
  (onReceive (encodeControl ctlRep h) s).outcome

/-- Receiving a STRT frame: DR08, DR11, DR14 (R96, R316). -/
def execStrt (h : ControlHeader) (s : State) : Host.Outcome State Fault Refusal :=
  (onReceive (encodeControl ctlStrt h) s).outcome

/-- Receiving a STACK frame: DR07, DR10 (R97, R316). -/
def execStack (h : ControlHeader) (s : State) : Host.Outcome State Fault Refusal :=
  (onReceive (encodeControl ctlStack h) s).outcome

end Sys2Proof.Machine
end

