-- ==== Sys2Proof/Machine/InterfaceOps.lean ====
section
/-! DEFINITION. Meanings: the host, transport and transmitter operations and reset as instructions (48_interfaces.md, R370). -/

namespace Sys2Proof.Machine

/-- `assign_receive_buffer` (R301). -/
def execAssignReceiveBuffer (address length : Nat) (s : State) : Host.Outcome State Fault Refusal :=
  (Sys2Proof.Machine.assignReceiveBuffer address length s).outcome

/-- `enqueue_transmit_buffer` (R302). -/
def execEnqueueTransmitBuffer (address length : Nat) (endOfMessage : Bool) (s : State) : Host.Outcome State Fault Refusal :=
  (Sys2Proof.Machine.enqueueTransmitBuffer address length endOfMessage s).outcome

/-- `kill_receive_buffers` (R305). -/
def execKillReceiveBuffers (enable : Bool) (s : State) : Host.Outcome State Fault Refusal :=
  (Sys2Proof.Machine.killReceiveBuffers enable s).outcome

/-- `kill_transmit_buffers` (R306). -/
def execKillTransmitBuffers (enable : Bool) (s : State) : Host.Outcome State Fault Refusal :=
  (Sys2Proof.Machine.killTransmitBuffers enable s).outcome

/-- `set_line_enabled` (R307). -/
def execSetLineEnabled (enabled : Bool) (s : State) : Host.Outcome State Fault Refusal :=
  (Sys2Proof.Machine.setLineEnabled enabled s).outcome

/-- `user_startup` (R308). -/
def execUserStartup (s : State) : Host.Outcome State Fault Refusal :=
  (userRequest .userStartup s).outcome

/-- `user_halt` (R308). -/
def execUserHalt (s : State) : Host.Outcome State Fault Refusal :=
  (userRequest .userHalt s).outcome

/-- `user_maintenance` (R308). -/
def execUserMaintenance (s : State) : Host.Outcome State Fault Refusal :=
  (userRequest .userMaintenanceMode s).outcome

/-- `host_pickup` (R309): it works while `fatal = 1`. -/
def execHostPickup (s : State) : Host.Outcome State Fault Refusal :=
  .next (Sys2Proof.Machine.hostPickup s)

/-- `tx_send(item)` (R310). -/
def execTxSend (item : TxItem) (s : State) : Host.Outcome State Fault Refusal :=
  if item.desc.all (isHandle s) then
    (unlessFatal (Sys2Proof.Machine.txSend Sys2Proof.Machine.txKick item) s).outcome
  else .fault .noDescriptor

/-- `tx_kick()` (R311). -/
def execTxKick (s : State) : Host.Outcome State Fault Refusal :=
  (unlessFatal Sys2Proof.Machine.txKick s).outcome

/-- `transmit_complete()` (R312). -/
def execTransmitComplete (s : State) : Host.Outcome State Fault Refusal :=
  (unlessFatal Sys2Proof.Machine.transmitComplete s).outcome

/-- `transport.send(bytes)` (R314): the answer is `accepted`. -/
def execTransportSend (bytes : List Byte) (s : State) : Host.Outcome State Fault Refusal :=
  let r := Sys2Proof.Machine.transportSend bytes s
  .next (answer (.flag (decide (r.1 ≠ .refused))) r.2)

/-- `on_receive(bytes)` (R316). -/
def execOnReceive (bytes : List Byte) (s : State) : Host.Outcome State Fault Refusal :=
  (Sys2Proof.Machine.onReceive bytes s).outcome

/-- `on_transmit_complete()` (R317). -/
def execOnTransmitComplete (s : State) : Host.Outcome State Fault Refusal :=
  (Sys2Proof.Machine.onTransmitComplete s).outcome

/-- `on_line_status_change(connected)` (R318). -/
def execOnLineStatusChange (connected : Bool) (s : State) : Host.Outcome State Fault Refusal :=
  (Sys2Proof.Machine.onLineStatusChange connected s).outcome

/-- `reset` (R370): every state element at its reset value, the configuration as given; the boundary is outside the engine. -/
def execReset (s : State) : Host.Outcome State Fault Refusal :=
  .next (State.resetWith s.cfg s.env)

end Sys2Proof.Machine
end

