-- ==== Sys2Proof/Machine/QueueOps.lean ====
section
/-! DEFINITION. Meanings: the queue and pool operations as instructions (44_queues.md). A handle that is no descriptor stops with a fault. -/

namespace Sys2Proof.Machine

/-- `enqueue(q, x)` (R172). -/
def execEnqueue (x : QueueArg) (s : State) : Host.Outcome State Fault Refusal :=
  if (argHandle x).all (isHandle s) then
    let r := Sys2Proof.Machine.enqueue x s
    .next (answer (.flag r.1) r.2)
  else .fault .noDescriptor

/-- `push_front(q, x)` (R173). -/
def execPushFront (x : QueueArg) (s : State) : Host.Outcome State Fault Refusal :=
  if (argHandle x).all (isHandle s) then
    let r := Sys2Proof.Machine.pushFront x s
    .next (answer (.flag r.1) r.2)
  else .fault .noDescriptor

/-- `dequeue(q)` (R174). -/
def execDequeue (q : QueueName) (s : State) : Host.Outcome State Fault Refusal :=
  .next (answer (.elem (queueHead s.pool q)) { s with pool := queueTail s.pool q })

/-- `head(q)` (R175). -/
def execHead (q : QueueName) (s : State) : Host.Outcome State Fault Refusal :=
  .next (answer (.elem (queueHead s.pool q)) s)

/-- `count(q)` (R176). -/
def execCount (q : QueueName) (s : State) : Host.Outcome State Fault Refusal :=
  .next (answer (.count (queueCount s.pool q)) s)

/-- `find_seq(ack_wait, s)` (R185). -/
def execFindSeq (seq : Byte) (s : State) : Host.Outcome State Fault Refusal :=
  .next (answer (.found (Sys2Proof.Machine.findSeq s seq)) s)

/-- `alloc(kind)` (R177): an empty pool raises Fatal, which is a next state (R346). -/
def execAlloc (k : BufferKind) (s : State) : Host.Outcome State Fault Refusal :=
  match Sys2Proof.Machine.alloc k s with
  | some (h, s1) => .next (answer (.handle h) s1)
  | none => .next (raiseFatal .poolExhausted (answer .none s))

/-- `release(h)` (R178). -/
def execRelease (h : Handle) (s : State) : Host.Outcome State Fault Refusal :=
  if isHandle s h then .next (Sys2Proof.Machine.release h s) else .fault .noDescriptor

/-- `RequeueAckWait` (R184). -/
def execRequeueAckWait (s : State) : Host.Outcome State Fault Refusal :=
  .next (Sys2Proof.Machine.requeueAckWait s)

/-- `notify(code)` (R181). -/
def execNotify (code : EventCode) (s : State) : Host.Outcome State Fault Refusal :=
  .next (Sys2Proof.Machine.notify code s)

end Sys2Proof.Machine
end

