-- ==== Sys2Proof/Machine/SequenceOps.lean ====
section
/-! DEFINITION. Meanings: the sequence operations as instructions (43_sequence_arithmetic.md). -/

namespace Sys2Proof.Machine

/-- `seq_cmp(a, b, W)` (R160). -/
def execSeqCmp (a b : Byte) (w : Nat) (s : State) : Host.Outcome State Fault Refusal :=
  .next (answer (.order (Sys2Proof.Machine.seqCmp a b w)) s)

/-- `inc(v)` and `add(v, k)` (R163). -/
def execInc (f : IncForm) (s : State) : Host.Outcome State Fault Refusal :=
  match f with
  | .inc v => .next (answer (.byte (Sys2Proof.Machine.inc v)) s)
  | .add v k => .next (answer (.byte (Sys2Proof.Machine.add v k)) s)

end Sys2Proof.Machine
end

