-- ==== Sys2Proof/Machine/TimerOps.lean ====
section
/-! DEFINITION. Meanings: the timer operations as instructions (45_timer.md). -/

namespace Sys2Proof.Machine

/-- `StartTimer` (R200). -/
def execStartTimer (s : State) : Host.Outcome State Fault Refusal :=
  .next (Sys2Proof.Machine.startTimer s)

/-- `StopTimer` (R201). -/
def execStopTimer (s : State) : Host.Outcome State Fault Refusal :=
  .next (Sys2Proof.Machine.stopTimer s)

/-- `tick` (R202). -/
def execTick (s : State) : Host.Outcome State Fault Refusal :=
  (Sys2Proof.Machine.tick s).outcome

end Sys2Proof.Machine
end

