-- ==== Sys2Proof/Machine/Dispatch.lean ====
section
/-! DEFINITION. The dispatch from an instruction to its meaning: one arm for each constructor of `Instr`. -/

namespace Sys2Proof.Machine

/-- The meaning of every instruction. -/
def exec (i : Instr) (s : State) : Host.Outcome State Fault Refusal :=
  match i with
  | .data h payload dcrc => Sys2Proof.Machine.execData h payload dcrc s
  | .maint h payload dcrc => Sys2Proof.Machine.execMaint h payload dcrc s
  | .ack h => Sys2Proof.Machine.execAck h s
  | .nak h => Sys2Proof.Machine.execNak h s
  | .rep h => Sys2Proof.Machine.execRep h s
  | .strt h => Sys2Proof.Machine.execStrt h s
  | .stack h => Sys2Proof.Machine.execStack h s
  | .crc16 seed bs => Sys2Proof.Machine.execCrc16 seed bs s
  | .header b0 b1 b2 b3 b4 => Sys2Proof.Machine.execHeader b0 b1 b2 b3 b4 s
  | .trailer p => Sys2Proof.Machine.execTrailer p s
  | .buildData buf len flags num resp => Sys2Proof.Machine.execBuildData buf len flags num resp s
  | .buildAck resp flags => Sys2Proof.Machine.execBuildAck resp flags s
  | .buildNak reason resp flags => Sys2Proof.Machine.execBuildNak reason resp flags s
  | .buildRep num flags => Sys2Proof.Machine.execBuildRep num flags s
  | .buildStart flags => Sys2Proof.Machine.execBuildStart flags s
  | .buildStartAck flags => Sys2Proof.Machine.execBuildStartAck flags s
  | .buildMaintenance len => Sys2Proof.Machine.execBuildMaintenance len s
  | .parse bytes => Sys2Proof.Machine.execParse bytes s
  | .seqCmp a b w => Sys2Proof.Machine.execSeqCmp a b w s
  | .inc f => Sys2Proof.Machine.execInc f s
  | .enqueue x => Sys2Proof.Machine.execEnqueue x s
  | .pushFront x => Sys2Proof.Machine.execPushFront x s
  | .dequeue q => Sys2Proof.Machine.execDequeue q s
  | .head q => Sys2Proof.Machine.execHead q s
  | .count q => Sys2Proof.Machine.execCount q s
  | .findSeq seq => Sys2Proof.Machine.execFindSeq seq s
  | .alloc k => Sys2Proof.Machine.execAlloc k s
  | .release h => Sys2Proof.Machine.execRelease h s
  | .requeueAckWait => Sys2Proof.Machine.execRequeueAckWait s
  | .notify code => Sys2Proof.Machine.execNotify code s
  | .startTimer => Sys2Proof.Machine.execStartTimer s
  | .stopTimer => Sys2Proof.Machine.execStopTimer s
  | .tick => Sys2Proof.Machine.execTick s
  | .assignReceiveBuffer address length => Sys2Proof.Machine.execAssignReceiveBuffer address length s
  | .enqueueTransmitBuffer address length endOfMessage => Sys2Proof.Machine.execEnqueueTransmitBuffer address length endOfMessage s
  | .killReceiveBuffers enable => Sys2Proof.Machine.execKillReceiveBuffers enable s
  | .killTransmitBuffers enable => Sys2Proof.Machine.execKillTransmitBuffers enable s
  | .setLineEnabled enabled => Sys2Proof.Machine.execSetLineEnabled enabled s
  | .userStartup => Sys2Proof.Machine.execUserStartup s
  | .userHalt => Sys2Proof.Machine.execUserHalt s
  | .userMaintenance => Sys2Proof.Machine.execUserMaintenance s
  | .hostPickup => Sys2Proof.Machine.execHostPickup s
  | .txSend item => Sys2Proof.Machine.execTxSend item s
  | .txKick => Sys2Proof.Machine.execTxKick s
  | .transmitComplete => Sys2Proof.Machine.execTransmitComplete s
  | .transportSend bytes => Sys2Proof.Machine.execTransportSend bytes s
  | .onReceive bytes => Sys2Proof.Machine.execOnReceive bytes s
  | .onTransmitComplete => Sys2Proof.Machine.execOnTransmitComplete s
  | .onLineStatusChange connected => Sys2Proof.Machine.execOnLineStatusChange connected s
  | .reset => Sys2Proof.Machine.execReset s
  | .dispatch e => Sys2Proof.Machine.execDispatch e s
  | .sendControl bytes => Sys2Proof.Machine.execSendControl bytes s
  | .resetVariables => Sys2Proof.Machine.execResetVariables s
  | .setSACK => Sys2Proof.Machine.execSetSACK s
  | .setSNAK r => Sys2Proof.Machine.execSetSNAK r s
  | .clearSNAK => Sys2Proof.Machine.execClearSNAK s
  | .setSREP => Sys2Proof.Machine.execSetSREP s
  | .clearSREP => Sys2Proof.Machine.execClearSREP s
  | .clearSACK => Sys2Proof.Machine.execClearSACK s
  | .setSNAKFromError reason => Sys2Proof.Machine.execSetSNAKFromError reason s
  | .sendStrt => Sys2Proof.Machine.execSendStrt s
  | .sendStack => Sys2Proof.Machine.execSendStack s
  | .completeAcked pkt => Sys2Proof.Machine.execCompleteAcked pkt s
  | .bumpT => Sys2Proof.Machine.execBumpT s
  | .setTToAplus1 => Sys2Proof.Machine.execSetTToAplus1 s
  | .stopTimerIfAGeX => Sys2Proof.Machine.execStopTimerIfAGeX s
  | .giveBufferToUser pkt => Sys2Proof.Machine.execGiveBufferToUser pkt s
  | .sendNewData => Sys2Proof.Machine.execSendNewData s
  | .retransmitT => Sys2Proof.Machine.execRetransmitT s
  | .sendAck => Sys2Proof.Machine.execSendAck s
  | .sendNak => Sys2Proof.Machine.execSendNak s
  | .sendRep => Sys2Proof.Machine.execSendRep s
  | .nakMissing pkt => Sys2Proof.Machine.execNakMissing pkt s
  | .setXToSentNum => Sys2Proof.Machine.execSetXToSentNum s
  | .startOrStopTimerByAX => Sys2Proof.Machine.execStartOrStopTimerByAX s
  | .notifyDisconnect => Sys2Proof.Machine.execNotifyDisconnect s
  | .notifyStartReceived => Sys2Proof.Machine.execNotifyStartReceived s
  | .notifyMaintReceived => Sys2Proof.Machine.execNotifyMaintReceived s
  | .clearStartReceived => Sys2Proof.Machine.execClearStartReceived s
  | .deliverMaintToHost pkt => Sys2Proof.Machine.execDeliverMaintToHost pkt s
  | .sendMaintMessage => Sys2Proof.Machine.execSendMaintMessage s
  | .dr00 => Sys2Proof.Machine.execDr00 s
  | .dr01 => Sys2Proof.Machine.execDr01 s
  | .dr02 => Sys2Proof.Machine.execDr02 s
  | .dr03 => Sys2Proof.Machine.execDr03 s
  | .dr04 => Sys2Proof.Machine.execDr04 s
  | .dr05 => Sys2Proof.Machine.execDr05 s
  | .dr06 => Sys2Proof.Machine.execDr06 s
  | .dr07 => Sys2Proof.Machine.execDr07 s
  | .dr08 => Sys2Proof.Machine.execDr08 s
  | .dr09 => Sys2Proof.Machine.execDr09 s
  | .dr10 => Sys2Proof.Machine.execDr10 s
  | .dr11 => Sys2Proof.Machine.execDr11 s
  | .dr12 => Sys2Proof.Machine.execDr12 s
  | .dr13 => Sys2Proof.Machine.execDr13 s
  | .dr14 => Sys2Proof.Machine.execDr14 s
  | .dr15 => Sys2Proof.Machine.execDr15 s
  | .dr16 => Sys2Proof.Machine.execDr16 s
  | .dr17 => Sys2Proof.Machine.execDr17 s
  | .dr18 => Sys2Proof.Machine.execDr18 s
  | .dr19 => Sys2Proof.Machine.execDr19 s
  | .dr20 => Sys2Proof.Machine.execDr20 s
  | .dr21 => Sys2Proof.Machine.execDr21 s
  | .dr22 => Sys2Proof.Machine.execDr22 s
  | .dr23 => Sys2Proof.Machine.execDr23 s
  | .dr24 => Sys2Proof.Machine.execDr24 s
  | .dr25 => Sys2Proof.Machine.execDr25 s
  | .dr26 => Sys2Proof.Machine.execDr26 s
  | .dr27 => Sys2Proof.Machine.execDr27 s
  | .dr28 => Sys2Proof.Machine.execDr28 s
  | .drDefault => Sys2Proof.Machine.execDrDefault s

end Sys2Proof.Machine
end

