-- ==== Sys2Proof/WellFormed.lean ====
section
/-! DEFINITION. Which terms of `Instr` are instructions: the ranges the spec gives their operands beyond their types
(41_codec_build.md R128, R129; 30_encoding.md R88, R98; 60_exceptions.md R342, R352; 44_queues.md R180, R182). -/

namespace Sys2Proof

/-- The codes of event records, which have no buffer (R352). -/
def EventCode.isEvent : EventCode → Bool
  | .disconnect | .startReceived | .maintenanceReceived | .fatal => true
  | .rxBufferComplete | .maintBufferComplete | .txBufferComplete | .rxBufferKilled | .txBufferKilled => false

/-- A completion record is a buffer record with a buffer code, or an event record with an event code and length 0
(R180, R352). -/
def Completion.wellFormed (r : Completion) : Bool :=
  match r.buffer with
  | some _ => !r.code.isEvent
  | none => r.code.isEvent && r.actualLength == 0

/-- The payload of a packet is `count` bytes (R140). -/
def Packet.wellFormed (p : Packet) : Bool := p.payload.length == p.count.toNat

/-- A control item owns a descriptor and carries 8 bytes; a data or maintenance item owns none (R182, R231). -/
def TxItem.wellFormed (i : TxItem) : Bool :=
  match i.kind with
  | .control => i.desc.isSome && i.bytes.length == 8
  | .data | .maint => i.desc.isNone

/-- The operand of `enqueue` and `push_front`: any handle, or a well-formed completion record. -/
def QueueArg.wellFormed : QueueArg → Bool
  | .handleIn _ _ => true
  | .recordIn r => r.wellFormed

/-- The operand checks of every instruction. -/
def Instr.wellFormed : Instr → Bool
  | .data h payload _ | .maint h payload _ => payload.length == h.count.toNat
  | .trailer p => decide (p.length ≤ 16383)
  | .buildData buf len _ _ _ => buf.length == len.toNat
  | .seqCmp _ _ w => decide (w ≤ 255)
  | .enqueue x | .pushFront x => x.wellFormed
  | .notify code => code.isEvent
  | .txSend item => item.wellFormed
  | .sendControl bytes => bytes.length == 8
  | .setSNAKFromError reason => reason == 1 || reason == 2
  | .completeAcked pkt => pkt.cls == .ack || pkt.cls == .nak || pkt.cls == .data
  | .giveBufferToUser pkt => pkt.cls == .data && pkt.wellFormed
  | .nakMissing pkt => pkt.cls == .data
  | .deliverMaintToHost pkt => pkt.cls == .maint && pkt.wellFormed
  | .ack .. | .nak .. | .rep .. | .strt .. | .stack .. | .crc16 .. | .header .. | .buildAck .. | .buildNak ..
  | .buildRep .. | .buildStart .. | .buildStartAck .. | .buildMaintenance .. | .parse .. | .inc ..
  | .dequeue .. | .head .. | .count .. | .findSeq .. | .alloc .. | .release .. | .requeueAckWait | .startTimer
  | .stopTimer | .tick | .assignReceiveBuffer .. | .enqueueTransmitBuffer .. | .killReceiveBuffers ..
  | .killTransmitBuffers .. | .setLineEnabled .. | .userStartup | .userHalt | .userMaintenance | .hostPickup
  | .txKick | .transmitComplete | .transportSend .. | .onReceive .. | .onTransmitComplete
  | .onLineStatusChange .. | .reset | .dispatch .. | .resetVariables | .setSACK | .setSNAK .. | .clearSNAK
  | .setSREP | .clearSREP | .clearSACK | .sendStrt | .sendStack | .bumpT | .setTToAplus1 | .stopTimerIfAGeX
  | .sendNewData | .retransmitT | .sendAck | .sendNak | .sendRep | .setXToSentNum | .startOrStopTimerByAX
  | .notifyDisconnect | .notifyStartReceived | .notifyMaintReceived | .clearStartReceived | .sendMaintMessage
  | .dr00 | .dr01 | .dr02 | .dr03 | .dr04 | .dr05 | .dr06 | .dr07 | .dr08 | .dr09 | .dr10 | .dr11 | .dr12
  | .dr13 | .dr14 | .dr15 | .dr16 | .dr17 | .dr18 | .dr19 | .dr20 | .dr21 | .dr22 | .dr23 | .dr24 | .dr25
  | .dr26 | .dr27 | .dr28 | .drDefault => true

end Sys2Proof
end

