-- ==== Sys2Proof/Machine/Fetch.lean ====
section
/-! DEFINITION. Taking the next stimulus (R17, R210): the engine has no program counter (R23); its program is the list
of what the host, the transport and the tick source do, in the order they do it (R3, R70). -/

namespace Sys2Proof.Machine

/-- The instructions that the host, the transport and the tick source can give (R210, R353), the wire frames among them,
and reset (R370). The others are the engine's own parts. -/
def external : Instr → Bool
  | .data .. | .maint .. | .ack .. | .nak .. | .rep .. | .strt .. | .stack .. => true
  | .assignReceiveBuffer .. | .enqueueTransmitBuffer .. | .killReceiveBuffers .. | .killTransmitBuffers ..
  | .setLineEnabled .. | .userStartup | .userHalt | .userMaintenance | .hostPickup => true
  | .onReceive .. | .onTransmitComplete | .onLineStatusChange .. | .tick | .reset => true
  | .crc16 .. | .header .. | .trailer .. | .buildData .. | .buildAck .. | .buildNak .. | .buildRep .. | .buildStart ..
  | .buildStartAck .. | .buildMaintenance .. | .parse .. | .seqCmp .. | .inc .. | .enqueue .. | .pushFront ..
  | .dequeue .. | .head .. | .count .. | .findSeq .. | .alloc .. | .release .. | .requeueAckWait | .notify ..
  | .startTimer | .stopTimer | .txSend .. | .txKick | .transmitComplete | .transportSend .. | .dispatch ..
  | .sendControl .. | .resetVariables | .setSACK | .setSNAK .. | .clearSNAK | .setSREP | .clearSREP | .clearSACK
  | .setSNAKFromError .. | .sendStrt | .sendStack | .completeAcked .. | .bumpT | .setTToAplus1 | .stopTimerIfAGeX
  | .giveBufferToUser .. | .sendNewData | .retransmitT | .sendAck | .sendNak | .sendRep | .nakMissing ..
  | .setXToSentNum | .startOrStopTimerByAX | .notifyDisconnect | .notifyStartReceived | .notifyMaintReceived
  | .clearStartReceived | .deliverMaintToHost .. | .sendMaintMessage | .dr00 | .dr01 | .dr02 | .dr03 | .dr04 | .dr05
  | .dr06 | .dr07 | .dr08 | .dr09 | .dr10 | .dr11 | .dr12 | .dr13 | .dr14 | .dr15 | .dr16 | .dr17 | .dr18 | .dr19
  | .dr20 | .dr21 | .dr22 | .dr23 | .dr24 | .dr25 | .dr26 | .dr27 | .dr28 | .drDefault => false

/-- What the next stimulus is, and the state with it taken from the list. -/
inductive Fetched where
  /-- nothing waits: "the engine is idle between events" (R354) -/
  | idle
  /-- a well-formed instruction: a frame the decoder reads, or an operation the outside has -/
  | run (i : Instr) (s : State)
  /-- bytes that are not exactly one instruction: rejected, or with surplus bytes; they are received all the same (R316) -/
  | raw (bytes : List Byte) (s : State)
  /-- the host has changed its memory -/
  | stored (s : State)
  /-- a call with operands outside their ranges (R128) -/
  | illFormed
  /-- a call of an operation that the outside does not have (R353) -/
  | notOffered

/-- The next stimulus, decoded. -/
def fetch (s : State) : Fetched :=
  match s.env.input with
  | [] => .idle
  | .frame bytes :: rest =>
    let s1 := { s with env.input := rest }
    match decode bytes with
    | .instr i [] => .run i s1
    | .instr _ (_ :: _) => .raw bytes s1
    | .reject _ => .raw bytes s1
  | .call i :: rest =>
    if external i then (if i.wellFormed then .run i { s with env.input := rest } else .illFormed) else .notOffered
  | .hostStore address bytes :: rest =>
    .stored { s with env.input := rest, env.mem := memWriteBytes s.env.mem address bytes }

/-- Bytes that are not exactly one instruction, received (R316). -/
def receiveRaw (bytes : List Byte) (s : State) : Host.Outcome State Fault Refusal := (onReceive bytes s).outcome

/-- The state with one frame as its next stimulus. -/
def placeFrame (bytes : List Byte) (s : State) : State := { s with env.input := .frame bytes :: s.env.input }

end Sys2Proof.Machine
end

