-- ==== Sys2Proof/Machine/Step.lean ====
section
/-! DEFINITION. One step (00_scope.md R17): the next stimulus is taken and done, whole. -/

namespace Sys2Proof.Machine

/-- One step. With nothing waiting the engine stays as it is. -/
def step (s : State) : Host.Outcome State Fault Refusal :=
  match fetch s with
  | .idle => .next s
  | .run i s1 => exec i s1
  | .raw bytes s1 => receiveRaw bytes s1
  | .stored s1 => .next s1
  | .illFormed => .refused .illFormed
  | .notOffered => .refused .notOffered

/-- The state with the frame of a table word as its next stimulus (log 6). -/
def State.withFetchWord (s : State) (nbits w : Nat) : State := placeFrame (wordBytes nbits w) s

end Sys2Proof.Machine
end

