-- ==== Sys2Proof/Safety.lean ====
section
/-! DEFINITION. The terms in which claims about the engine are stated: the conditions that hold between steps (10_state.md,
44_queues.md R182, 46_dispatch_engine.md R216), the conditions of the dispatch table written out, and closed forms of what
loops and shared operations leave behind. -/

namespace Sys2Proof.Machine

/-! ### Conditions on states -/

/-- "at most one of SACK, SNAK is true at any time" (R31). -/
def LatchExclusive (s : State) : Prop := ¬(s.link.sack = true ∧ s.link.snak = true)

/-- The timer's count lies in 0..PKT_TIMEOUT, and a running timer has a tick left (R34, R202). -/
def TimerInRange (s : State) : Prop :=
  s.timer.remaining ≤ s.cfg.pktTimeout ∧ (s.timer.running = true → 1 ≤ s.timer.remaining)

/-- The dispatcher's bookkeeping between steps (R35 to R38, R216, R351). -/
def restingDispatcher : Dispatcher :=
  { scanning := false, recurseScan := false, pending := noEvents, curEvent := none, scanIndex := 0 }

/-- No dispatch runs and nothing is pending (R216, R351). -/
def AtRest (s : State) : Prop := s.disp = restingDispatcher

/-- No dispatch runs, nothing is pending, and the engine takes events (R215). -/
def Ready (s : State) : Prop := AtRest s ∧ s.latch.fatal = false

/-- "no rule of the table matches with no event present" (R16). -/
def Quiescent (s : State) : Prop := ∀ r ∈ ruleTable kickInDispatch, r.applies none none s = false

/-- A link that has met the fatal condition is halted, its timer stopped (R346). -/
def FatalHalted (s : State) : Prop := s.latch.fatal = true → s.link.state = .halt ∧ s.timer.running = false

/-- Everything that owns a descriptor, handle by handle (R182). -/
def holders (s : State) : List Handle :=
  s.pool.free ++ s.pool.receive ++ s.pool.transmit ++ s.pool.ackWait ++ s.pool.completion.filterMap (·.buffer)
    ++ s.tx.fifo.filterMap (·.desc) ++ s.tx.inflight.toList.filterMap (·.desc)

/-- The codes of the event records waiting in `completion` (R180, R181). -/
def eventCodes (s : State) : List EventCode := (s.pool.completion.filter (·.buffer.isNone)).map (·.code)

/-- Single membership (R182) with the kinds of R47 to R49 and the coalescing of R181. -/
structure Owned (s : State) : Prop where
  /-- the table has W descriptors (R44) -/
  table : s.pool.desc.length = s.cfg.window
  /-- each handle 0..W-1 occurs exactly once among the owners (R182) -/
  once : (holders s).Perm (List.range s.cfg.window)
  /-- a control item owns a descriptor, a data or maintenance item none (R182) -/
  items : ∀ i ∈ s.tx.fifo ++ s.tx.inflight.toList, i.desc.isSome = true ↔ i.kind = .control
  /-- "only a TransmitControl descriptor is ever owned by a transmit item" (R182) -/
  controlKind : ∀ i ∈ s.tx.fifo ++ s.tx.inflight.toList, ∀ h ∈ i.desc, (descOf s h).kind = .transmitControl
  /-- `receive` holds Receive descriptors (R47) -/
  receiveKind : ∀ h ∈ s.pool.receive, (descOf s h).kind = .receive
  /-- `transmit` holds TransmitData descriptors (R48) -/
  transmitKind : ∀ h ∈ s.pool.transmit, (descOf s h).kind = .transmitData
  /-- `ack_wait` holds TransmitData descriptors (R49) -/
  ackWaitKind : ∀ h ∈ s.pool.ackWait, (descOf s h).kind = .transmitData
  /-- no two event records of one code (R181) -/
  eventsOnce : (eventCodes s).Nodup
  /-- an event record has an event's code (R352) -/
  eventsCoded : ∀ c ∈ eventCodes s, c.isEvent = true

/-- What every step keeps, whatever instruction it runs. -/
structure EngineInv (s : State) : Prop where
  timeout : 1 ≤ s.cfg.pktTimeout
  latches : LatchExclusive s
  timer : TimerInRange s
  atRest : AtRest s
  memory : Memory.wf s.env.mem = true

/-- What every step keeps that the outside world can cause. -/
structure LinkInv (s : State) : Prop where
  atRest : AtRest s
  quiescent : Quiescent s
  fatalHalted : FatalHalted s
  owned : Owned s

/-! ### The dispatch loop without a bound -/

/-- The loop of R216 as a relation: `Loops ev s t` where a scan for `ev` at `s`, and what follows it, ends in `t`. -/
inductive Loops : Option EventKind → State → State → Prop where
  /-- `raise Fatal` ended the step (R221) -/
  | fatal {ev s t} : scan ev { s with disp.curEvent := ev } = some (.ended t) → Loops ev s t
  /-- an entry fired and an event is pending -/
  | firedPending {ev s s1 e t} : scan ev { s with disp.curEvent := ev } = some (.go s1) →
      pendingFirst s1.disp.pending = some e → Loops (some e) (takePending e s1) t → Loops ev s t
  /-- an entry fired and nothing is pending: rescan with no event -/
  | firedRescan {ev s s1 t} : scan ev { s with disp.curEvent := ev } = some (.go s1) →
      pendingFirst s1.disp.pending = none → Loops none s1 t → Loops ev s t
  /-- nothing fired and an event is pending -/
  | idlePending {ev s e t} : scan ev { s with disp.curEvent := ev } = none →
      pendingFirst s.disp.pending = some e → Loops (some e) (takePending e { s with disp.curEvent := ev }) t →
      Loops ev s t
  /-- nothing fired and nothing is pending: leave -/
  | leave {ev s} : scan ev { s with disp.curEvent := ev } = none → pendingFirst s.disp.pending = none →
      Loops ev s (leaveDispatch { s with disp.curEvent := ev })

/-! ### The conditions of the dispatch table -/

/-- The scan is for this event (R222). -/
def scansFor (e : EventKind) (s : State) : Prop := s.disp.curEvent = some e

/-- The scan is for a received packet of this class, of which `f` holds (R222). -/
def scansPacket (c : PacketClass) (f : Packet → Prop) (s : State) : Prop :=
  s.disp.curEvent = some .packetReceived ∧ ∃ p, s.tx.rxPkt = some (.packet p) ∧ p.cls = c ∧ f p

/-- Each entry with its state and conditions, from R260 to R288, over the fields of the state: LT is -1, LE is not +1 and GT
is +1 of `seq_cmp` (R161), `XmitIdle` is nothing in flight and nothing staged (R224), `UserMessageQueued` and
`AckWaitNotFull` are counts (R226). -/
def entryConditions (s : State) : List (Instr × Prop) :=
  let w := s.cfg.window
  let any : Packet → Prop := fun _ => True
  let idle := s.tx.inflight = none ∧ s.tx.fifo = []
  let acks : Packet → Prop := fun p => seqCmp s.link.a p.resp w = -1 ∧ seqCmp p.resp s.link.n w ≠ 1
  let run := s.link.state = .run
  [(.dr00, scansFor .userHalt s),
   (.dr01, s.link.state = .halt ∧ scansFor .userStartup s ∧ s.link.lineConnected = true),
   (.dr02, scansFor .userMaintenanceMode s),
   (.dr03, s.link.state = .maintenance ∧ scansPacket .maint any s),
   (.dr04, scansPacket .maint any s),
   (.dr05, s.link.state = .maintenance ∧ idle ∧ 0 < s.pool.transmit.length),
   (.dr06, s.link.state = .iStart ∧ scansFor .timerExpired s),
   (.dr07, s.link.state = .iStart ∧ scansPacket .stack any s),
   (.dr08, s.link.state = .iStart ∧ scansPacket .strt any s),
   (.dr09, s.link.state = .iStart ∧ s.timer.running = false),
   (.dr10, s.link.state = .aStart ∧ (scansPacket .ack any s ∨ scansPacket .data any s ∨ scansPacket .stack any s)),
   (.dr11, s.link.state = .aStart ∧ scansPacket .strt any s),
   (.dr12, s.link.state = .aStart ∧ scansFor .timerExpired s),
   (.dr13, run ∧ s.link.lineConnected = false),
   (.dr14, run ∧ scansPacket .strt any s),
   (.dr15, run ∧ scansPacket .data (fun p => p.num = s.link.r + 1) s),
   (.dr16, run ∧ scansPacket .data (fun p => seqCmp p.num (s.link.r + 1) w = 1) s),
   (.dr17, run ∧ scansFor .packetReceived s ∧ ∃ reason, s.tx.rxPkt = some (.error reason)),
   (.dr18, run ∧ (scansPacket .ack acks s ∨ scansPacket .data acks s)),
   (.dr19, run ∧ scansPacket .nak (fun p => seqCmp s.link.a p.resp w ≠ 1 ∧ seqCmp p.resp s.link.n w ≠ 1) s),
   (.dr20, run ∧ scansPacket .rep (fun p => p.num = s.link.r) s),
   (.dr21, run ∧ scansPacket .rep (fun p => p.num ≠ s.link.r) s),
   (.dr22, run ∧ scansFor .timerExpired s),
   (.dr23, run ∧ scansFor .transmitDone s ∧ s.tx.doneKind = .data),
   (.dr24, run ∧ idle ∧ s.link.snak = true),
   (.dr25, run ∧ idle ∧ s.link.snak = false ∧ s.link.srep = true),
   (.dr26, run ∧ idle ∧ s.link.snak = false ∧ s.link.srep = false ∧ seqCmp s.link.t (s.link.n + 1) w = -1),
   (.dr27, run ∧ 0 < s.pool.transmit.length ∧ s.link.t = s.link.n + 1 ∧ idle ∧ s.link.snak = false ∧
     s.link.srep = false ∧ s.pool.ackWait.length < w),
   (.dr28, run ∧ idle ∧ s.link.sack = true ∧ s.link.t = s.link.n + 1)]

/-! ### Closed forms -/

/-- The descriptors whose handle is in `hs`, changed by `f`. -/
def touch (hs : List Handle) (f : Descriptor → Descriptor) (d : List Descriptor) : List Descriptor :=
  d.mapIdx fun i x => if i ∈ hs then f x else x

/-- A descriptor whose sequence number is cleared (R184). -/
def unnumbered (d : Descriptor) : Descriptor := { d with seq := 0 }

/-- A descriptor handed to the host with the length `len` gives it (R180). -/
def handedBack (len : Descriptor → BitVec 14) (code : EventCode) (d : Descriptor) : Descriptor :=
  { d with actual := len d, eventCode := code }

/-- After `RequeueAckWait` (R184). -/
def requeued (p : Pool) : Pool :=
  { p with transmit := p.ackWait ++ p.transmit, ackWait := [],
           desc := touch p.ackWait unnumbered p.desc }

/-- After buffers were handed to the host in order, each with the length `len` gives it (R180, R241, R244, R305). -/
def handedOver (hs : List Handle) (len : Descriptor → BitVec 14) (code : EventCode) (p : Pool) : Pool :=
  { p with
    completion := p.completion ++
      hs.map fun h => { buffer := some h, actualLength := len (p.desc.getD h resetDescriptor), code := code }
    desc := touch hs (handedBack len code) p.desc }

/-- Whether an `ack_wait` buffer is acknowledged by `resp` (R241). -/
def isAcked (w : Nat) (p : Pool) (resp : Byte) (h : Handle) : Bool :=
  seqLE w (p.desc.getD h resetDescriptor).seq resp

/-- After the buffers acknowledged by `resp` were completed (R241). -/
def acknowledged (w : Nat) (resp : Byte) (p : Pool) : Pool :=
  handedOver (p.ackWait.takeWhile (isAcked w p resp)) (·.length) .txBufferComplete
    { p with ackWait := p.ackWait.dropWhile (isAcked w p resp) }

/-- After `notify(code)` with room in `completion` (R181). -/
def noted (code : EventCode) (p : Pool) : Pool :=
  if p.completion.any (fun r => r.buffer == none && r.code == code) then p
  else { p with completion := p.completion ++ [{ buffer := none, actualLength := 0, code := code }] }

/-- After `raise Fatal` with room in `completion` (R346). -/
def afterFatal (cause : FatalCause) (s : State) : State :=
  { s with
    latch.fatal := true, link.state := .halt, timer.running := false, disp := restingDispatcher
    pool := noted .fatal s.pool
    env.dump := some (dumpOf cause s) }

/-- After `alloc(kind)` took `h`, `rest` being what is left of `free` (R177). -/
def allocated (k : BufferKind) (h : Handle) (rest : List Handle) (p : Pool) : Pool :=
  { p with free := rest
           desc := p.desc.modify h fun d => { d with kind := k, actual := 0, seq := 0, eom := false } }

/-- The transmit item of a control frame (R231). -/
def controlItem (bytes : List Byte) (h : Handle) : TxItem :=
  { bytes := bytes, kind := .control, num := 0, desc := some h }

/-- After a control frame was staged in the descriptor `h` (R231, R310). -/
def stagedControl (bytes : List Byte) (h : Handle) (rest : List Handle) (s : State) : State :=
  { s with
    pool := { s.pool with
      free := rest
      desc := s.pool.desc.modify h fun d =>
        { d with kind := .transmitControl, actual := 0, seq := 0, eom := false, length := 8 } }
    tx.fifo := s.tx.fifo ++ [controlItem bytes h] }

/-- After control frames were staged one by one, the `n`-th in the `n`-th descriptor of `free` (R250). -/
def stagedControls (frames : List (List Byte)) (s : State) : State :=
  { s with
    pool := { s.pool with
      free := s.pool.free.drop frames.length
      desc := touch (s.pool.free.take frames.length) (fun d =>
        { d with kind := .transmitControl, actual := 0, seq := 0, eom := false, length := 8 }) s.pool.desc }
    tx.fifo := s.tx.fifo ++ List.zipWith controlItem frames s.pool.free }

/-- The bytes of a transmit buffer as host memory holds them (R66). -/
def messageBytes (s : State) (h : Handle) : List Byte :=
  memReadBytes s.env.mem (descOf s h).address (descOf s h).length.toNat

/-- After the head `h` of `transmit` was numbered and its frame staged (R245). -/
def stagedData (h : Handle) (rest : List Handle) (s : State) : State :=
  let num := s.link.n + 1
  { s with
    link.n := num, link.t := num + 1
    pool := { s.pool with
      transmit := rest, ackWait := s.pool.ackWait ++ [h]
      desc := s.pool.desc.modify h fun d => { d with seq := num } }
    tx.fifo := s.tx.fifo ++
      [{ bytes := buildData (messageBytes s h) (descOf s h).length s.cfg.dataFlags num s.link.r,
         kind := .data, num := num, desc := none }] }

/-- After the buffer `h` numbered `T` was staged again (R246). -/
def restagedData (h : Handle) (s : State) : State :=
  { s with
    link.t := s.link.t + 1
    tx.fifo := s.tx.fifo ++
      [{ bytes := buildData (messageBytes s h) (descOf s h).length s.cfg.dataFlags s.link.t s.link.r,
         kind := .data, num := s.link.t, desc := none }] }

/-- After the head `h` of `transmit` was sent as a maintenance message (R256). -/
def stagedMaint (h : Handle) (rest : List Handle) (s : State) : State :=
  { s with
    pool := handedOver [h] (·.length) .txBufferComplete { s.pool with transmit := rest }
    tx.fifo := s.tx.fifo ++
      [{ bytes := maintFrame (messageBytes s h) (descOf s h).length, kind := .maint, num := 0, desc := none }] }

/-- After the payload of `pkt` went into the buffer `h` at the head of `receive` (R244, R255). -/
def delivered (h : Handle) (rest : List Handle) (pkt : Packet) (code : EventCode) (s : State) : State :=
  { s with
    env.mem := memWriteBytes s.env.mem (descOf s h).address pkt.payload
    pool := handedOver [h] (fun _ => pkt.count) code { s.pool with receive := rest } }

/-- After the frame `x` left inside `send` while a dispatch runs: `TransmitDone` is pending (R312, R317). -/
def completedInside (x : TxItem) (s : State) : State :=
  { s with
    tx.fifo := [], tx.inflight := none, tx.doneKind := x.kind, tx.doneNum := x.num
    pool.free := s.pool.free ++ x.desc.toList
    disp.pending.transmitDone := true, disp.recurseScan := true }

/-- After `ResetVariables`, the queues having room (R232). -/
def variablesReset (s : State) : State :=
  { s with
    link := { s.link with r := 0, n := 0, a := 0, x := 0, t := 1, sack := false, snak := false, srep := false,
                          nakReason := 0 }
    pool := { requeued s.pool with free := s.pool.free ++ s.tx.fifo.filterMap (·.desc) }
    tx.fifo := [] }

/-- Bytes with the two bytes of their CRC after them, the low byte first (R63, R120, R129). -/
def withCrc (b : List Byte) : List Byte := b ++ [(crc16 0 b).extractLsb' 0 8, (crc16 0 b).extractLsb' 8 8]

/-- `n` ticks in a row, as far as each answers a next state (R319). -/
def ticks : Nat → State → Host.Outcome State Fault Refusal
  | 0, s => .next s
  | n + 1, s =>
    match exec .tick s with
    | .next t => ticks n t
    | .fault f => .fault f
    | .refused r => .refused r

/-- Frames received one after the other, as far as each answers a next state (R316). -/
def receptions : List (List Byte) → State → Host.Outcome State Fault Refusal
  | [], s => .next s
  | b :: bs, s =>
    match exec (.onReceive b) s with
    | .next t => receptions bs t
    | .fault f => .fault f
    | .refused r => .refused r

/-- The NAKs of a gap: one for each number from `k` on, `n` of them (R250). -/
def gapNaks (c : Config) (k : Byte) (n : Nat) : List (List Byte) :=
  (List.range n).map fun j => buildNak c.gapNakReason (k + BitVec.ofNat 8 j) c.ctlFlags

/-- What an instruction that stages a frame answers, `staged` being the state with the frame staged and everything else
done: with a frame in flight, `staged` itself (R311); else the head `x` of `tx_fifo` is offered, and stays there if it is
refused (R313), is in flight if it is accepted, and has left if it completes inside `send` (R317; shown here for a running
dispatch and a single frame). A send in which the transport delivers frames is told of in its own statement (R378). -/
def Sends (o : Host.Outcome State Fault Refusal) (staged : State) : Prop :=
  (staged.tx.inflight ≠ none → o = .next staged) ∧
  ∀ x xs s1, staged.tx.inflight = none → staged.tx.fifo = x :: xs →
    (offerFrame x.bytes staged = (.refused, s1) → o = .next s1) ∧
    (offerFrame x.bytes staged = (.acceptedLater, s1) →
      o = .next { s1 with tx.fifo := xs, tx.inflight := some x }) ∧
    (offerFrame x.bytes staged = (.acceptedNow, s1) → staged.disp.scanning = true → staged.latch.fatal = false →
      staged.pool.free.length ≠ staged.cfg.window → xs = [] → o = .next (completedInside x s1))

/-- After frames were delivered inside a send while a dispatch runs, the policy off: the last one that carries a packet or an
error is in `rx_pkt`, and one `PacketReceived` is pending for all of them (R37, R378). -/
def heardScanning (frames : List (List Byte)) (s : State) : State :=
  match (frames.filterMap received).getLast? with
  | some rx => { s with tx.rxPkt := some rx, disp.pending.packetReceived := true, disp.recurseScan := true }
  | none => s

/-! ### Frames whose CRCs are right -/

/-- The header CRC of a control frame is the one of its first six bytes (R87). -/
def controlSealed (sub : Byte) (h : ControlHeader) : Prop :=
  h.hcrc = crc16 0 [typeENQ, sub, byte2Of h.flags h.subfield, h.resp, h.num, h.addr]

/-- The header CRC of a data or maintenance frame is the one of its first six bytes (R87). -/
def dataSealed (type : Byte) (h : DataHeader) : Prop :=
  h.hcrc = crc16 0 [type, countLow h.count, byte2Of h.flags (countHigh h.count), h.resp, h.num, h.addr]

/-- The packet of a control frame (R147). -/
def controlPacket (cls : PacketClass) (h : ControlHeader) : Packet :=
  { cls := cls, count := 0, flags := h.flags, resp := h.resp, num := h.num, subfield := h.subfield, addr := h.addr,
    payload := [] }

/-- The packet of a data or maintenance frame (R147). -/
def dataPacket (cls : PacketClass) (h : DataHeader) (payload : List Byte) : Packet :=
  { cls := cls, count := h.count, flags := h.flags, resp := h.resp, num := h.num, subfield := 0, addr := h.addr,
    payload := payload }

end Sys2Proof.Machine
end

