-- ==== Sys2Proof/Certificates/Slice0/Obligations.lean ====
section
/-! DEFINITION. The statements about the model, for the provers. Each is a numbered rule of spec/, or follows from the rules its
docstring names; where one rests on a choice of the model's own, its docstring names the log entry. -/

open Sys2Proof Sys2Proof.Machine

/-! ### Frames: encoding (30_encoding.md) -/

/-- Decoding an encoded well-formed frame gives the frame back with every operand, and hands back the bytes after it. -/
def Obligations.DecodeInvertsEncode : Prop :=
  ∀ (i : Instr) (b rest : List Byte), i.wellFormed = true → encode i = some b → decode (b ++ rest) = .instr i rest

/-- What the decoder reads is well formed, and the bytes it read are the encoding of what it read: no byte string stands
for two instructions and no bit of a header is dropped. -/
def Obligations.DecodedBytesAreTheEncoding : Prop :=
  ∀ (bs rest : List Byte) (i : Instr), decode bs = .instr i rest →
    i.wellFormed = true ∧ ∃ b, encode i = some b ∧ bs = b ++ rest

/-- The MODEL's own choice of what decoding rejects (log 8): the decoder rejects a short string, an unknown type byte, an
unknown sub-type, whatever the CRC, and a body shorter than its count, each by its name, and checks no CRC. R100 also lists
strings with a wrong CRC, and names a bad sub-type only under a right header CRC: receiving a frame makes those checks
(R141, R150). -/
def Obligations.IllegalEncodingsRejectedByName : Prop :=
  (∀ bs : List Byte, decode bs = .reject .tooShort ↔ bs.length < 8) ∧
  ∀ (b0 b1 b2 b3 b4 b5 b6 b7 : Byte) (body : List Byte),
    let bs := b0 :: b1 :: b2 :: b3 :: b4 :: b5 :: b6 :: b7 :: body
    (decode bs = .reject .badType ↔ b0 ≠ 0x81 ∧ b0 ≠ 0x05 ∧ b0 ≠ 0x90) ∧
    (decode bs = .reject .badSubtype ↔
      b0 = 0x05 ∧ b1 ≠ 1 ∧ b1 ≠ 2 ∧ b1 ≠ 3 ∧ b1 ≠ 6 ∧ b1 ≠ 7) ∧
    (decode bs = .reject .truncated ↔
      (b0 = 0x81 ∨ b0 = 0x90) ∧ bs.length < 8 + (b1.toNat + 256 * (b2.toNat % 64)) + 2)

/-- One written-out frame of each kind decodes to the instruction it stands for (the examples of R93 to R97 and R121,
R127). -/
def Obligations.WrittenFramesDecode : Prop :=
  decode [0x05, 0x01, 0x00, 0x05, 0x00, 0x01, 0xEC, 0x54] =
    .instr (.ack { flags := 0, subfield := 0, resp := 5, num := 0, addr := 1, hcrc := 0x54EC }) [] ∧
  decode [0x05, 0x02, 0xC8, 0x05, 0x00, 0x01, 0x96, 0x34] =
    .instr (.nak { flags := 3, subfield := 8, resp := 5, num := 0, addr := 1, hcrc := 0x3496 }) [] ∧
  decode [0x05, 0x03, 0x00, 0x00, 0x07, 0x01, 0x87, 0xA5] =
    .instr (.rep { flags := 0, subfield := 0, resp := 0, num := 7, addr := 1, hcrc := 0xA587 }) [] ∧
  decode [0x05, 0x06, 0xC0, 0x00, 0x00, 0x01, 0x75, 0x95] =
    .instr (.strt { flags := 3, subfield := 0, resp := 0, num := 0, addr := 1, hcrc := 0x9575 }) [] ∧
  decode [0x05, 0x07, 0x00, 0x00, 0x00, 0x01, 0x74, 0x55] =
    .instr (.stack { flags := 0, subfield := 0, resp := 0, num := 0, addr := 1, hcrc := 0x5574 }) [] ∧
  decode [0x81, 0x05, 0x40, 0x00, 0x01, 0x01, 0x07, 0x81, 0x68, 0x65, 0x6C, 0x6C, 0x6F, 0xD2, 0x34] =
    .instr (.data { flags := 1, count := 5, resp := 0, num := 1, addr := 1, hcrc := 0x8107 }
      [0x68, 0x65, 0x6C, 0x6C, 0x6F] 0x34D2) [] ∧
  decode [0x90, 0x02, 0xC0, 0x00, 0x00, 0x01, 0x99, 0x50, 0x58, 0x59, 0xFB, 0xFA] =
    .instr (.maint { flags := 3, count := 2, resp := 0, num := 0, addr := 1, hcrc := 0x5099 } [0x58, 0x59] 0xFAFB) []

/-! ### The codec (40_crc16.md, 41_codec_build.md, 42_codec_parse.md) -/

/-- R149: `parse` gives back what each builder was given, and the CRC of every built header and of every built payload
with its trailer is 0. -/
def Obligations.BuiltFramesParseBack : Prop :=
  (∀ (p : List Byte) (n : BitVec 14) (f : BitVec 2) (num resp : Byte), p.length = n.toNat →
    parse (buildData p n f num resp) =
      .packet { cls := .data, count := n, flags := f, resp := resp, num := num, subfield := 0, addr := 1, payload := p } ∧
    parse (maintFrame p n) =
      .packet { cls := .maint, count := n, flags := 3, resp := 0, num := 0, subfield := 0, addr := 1, payload := p } ∧
    ∀ b ∈ [buildData p n f num resp, maintFrame p n], crc16 0 (b.take 8) = 0 ∧ crc16 0 (b.drop 8) = 0) ∧
  ∀ (resp num : Byte) (f : BitVec 2) (r : BitVec 6),
    parse (buildAck resp f) =
      .packet { cls := .ack, count := 0, flags := f, resp := resp, num := 0, subfield := 0, addr := 1, payload := [] } ∧
    parse (buildNak r resp f) =
      .packet { cls := .nak, count := 0, flags := f, resp := resp, num := 0, subfield := r, addr := 1, payload := [] } ∧
    parse (buildRep num f) =
      .packet { cls := .rep, count := 0, flags := f, resp := 0, num := num, subfield := 0, addr := 1, payload := [] } ∧
    parse (buildStart f) =
      .packet { cls := .strt, count := 0, flags := f, resp := 0, num := 0, subfield := 0, addr := 1, payload := [] } ∧
    parse (buildStartAck f) =
      .packet { cls := .stack, count := 0, flags := f, resp := 0, num := 0, subfield := 0, addr := 1, payload := [] } ∧
    ∀ b ∈ [buildAck resp f, buildNak r resp f, buildRep num f, buildStart f, buildStartAck f], crc16 0 (b.take 8) = 0

/-- R142 to R147: the checks of `parse` in their order, the value each failure gives, and the fields of a packet. -/
def Obligations.ParseChecksInOrder : Prop :=
  (∀ bs : List Byte, bs.length < 8 → parse bs = .messageError .tooShort) ∧
  ∀ (b0 b1 b2 b3 b4 b5 b6 b7 : Byte) (body : List Byte),
    let bs := b0 :: b1 :: b2 :: b3 :: b4 :: b5 :: b6 :: b7 :: body
    let count := b1.toNat + 256 * (b2.toNat % 64)
    (b0 ≠ 0x81 → b0 ≠ 0x05 → b0 ≠ 0x90 → parse bs = .messageError .badType) ∧
    (b0 = 0x81 ∨ b0 = 0x05 ∨ b0 = 0x90 →
      (crc16 0 (bs.take 8) = 0 ↔ crc16 0 [b0, b1, b2, b3, b4, b5] = b7 ++ b6) ∧
      (crc16 0 (bs.take 8) ≠ 0 → parse bs = .messageError .headerCRC) ∧
      (crc16 0 (bs.take 8) = 0 → b0 = 0x05 →
        (∀ cls, (b1 = 1 ∧ cls = .ack) ∨ (b1 = 2 ∧ cls = .nak) ∨ (b1 = 3 ∧ cls = .rep) ∨ (b1 = 6 ∧ cls = .strt) ∨
            (b1 = 7 ∧ cls = .stack) →
          parse bs = .packet { cls := cls, count := 0, flags := b2.extractLsb' 6 2, resp := b3, num := b4,
                               subfield := b2.extractLsb' 0 6, addr := b5, payload := [] }) ∧
        (b1 ≠ 1 → b1 ≠ 2 → b1 ≠ 3 → b1 ≠ 6 → b1 ≠ 7 → parse bs = .messageError .badSubtype)) ∧
      (crc16 0 (bs.take 8) = 0 → b0 ≠ 0x05 →
        (body.length < count + 2 ∨ crc16 0 (body.take (count + 2)) ≠ 0 → parse bs = .messageError .dataCRC) ∧
        (count + 2 ≤ body.length → crc16 0 (body.take (count + 2)) = 0 →
          parse bs = .packet { cls := if b0 = 0x81 then .data else .maint, count := BitVec.ofNat 14 count,
                               flags := b2.extractLsb' 6 2, resp := b3, num := b4, subfield := 0, addr := b5,
                               payload := body.take count })))

/-- The nibble-table form of the CRC equals the bit-serial one, four bit steps being one table step: R112, which the spec
marks as derived from R110 and R111. -/
def Obligations.NibbleCrcEqualsBitCrc : Prop :=
  (∀ crc : Word16, crcBits4 crc = (crc >>> 4) ^^^ crcTable.getD (crc.extractLsb' 0 4).toNat 0) ∧
  ∀ (seed : Word16) (s : List Byte), crc16Nibble seed s = crc16 seed s

/-- The properties of R113, which the spec marks as derived from R110: zero strings, chaining, linearity and the residue. -/
def Obligations.CrcChainsIsLinearAndLeavesNoResidue : Prop :=
  (∀ n, crc16 0 (List.replicate n 0) = 0) ∧
  (∀ (seed : Word16) (s t : List Byte), crc16 seed (s ++ t) = crc16 (crc16 seed s) t) ∧
  (∀ s t : List Byte, s.length = t.length →
    crc16 0 (List.zipWith (fun x y => x ^^^ y) s t) = crc16 0 s ^^^ crc16 0 t) ∧
  ∀ s : List Byte, crc16 0 (withCrc s) = 0

/-- R120 to R127 and R129, with R110 and R141: every codec operation answers, changes nothing else, and each builder's answer
is its bytes, field by field. -/
def Obligations.CodecInstructionsAnswer : Prop :=
  ∀ s : State,
    (∀ (seed : Word16) (b : List Byte), exec (.crc16 seed b) s = .next { s with env.reply := .word (crc16 seed b) }) ∧
    (∀ b : List Byte, exec (.parse b) s = .next { s with env.reply := .parsed (parse b) }) ∧
    (∀ b0 b1 b2 b3 b4 : Byte,
      exec (.header b0 b1 b2 b3 b4) s = .next { s with env.reply := .bytes (withCrc [b0, b1, b2, b3, b4, 0x01]) }) ∧
    (∀ p : List Byte, exec (.trailer p) s =
      .next { s with env.reply := .bytes [(crc16 0 p).extractLsb' 0 8, (crc16 0 p).extractLsb' 8 8] }) ∧
    (∀ (buf : List Byte) (len : BitVec 14) (f : BitVec 2) (num resp : Byte),
      let head : List Byte := [0x81, len.extractLsb' 0 8, f ++ len.extractLsb' 8 6, resp, num, 0x01]
      exec (.buildData buf len f num resp) s = .next { s with env.reply := .bytes (withCrc head ++ withCrc buf) }) ∧
    (∀ (resp : Byte) (f : BitVec 2), exec (.buildAck resp f) s =
      .next { s with env.reply := .bytes (withCrc [0x05, 1, f ++ (0 : BitVec 6), resp, 0, 0x01]) }) ∧
    (∀ (r : BitVec 6) (resp : Byte) (f : BitVec 2), exec (.buildNak r resp f) s =
      .next { s with env.reply := .bytes (withCrc [0x05, 2, f ++ r, resp, 0, 0x01]) }) ∧
    (∀ (num : Byte) (f : BitVec 2), exec (.buildRep num f) s =
      .next { s with env.reply := .bytes (withCrc [0x05, 3, f ++ (0 : BitVec 6), 0, num, 0x01]) }) ∧
    (∀ f : BitVec 2, exec (.buildStart f) s =
      .next { s with env.reply := .bytes (withCrc [0x05, 6, f ++ (0 : BitVec 6), 0, 0, 0x01]) }) ∧
    (∀ f : BitVec 2, exec (.buildStartAck f) s =
      .next { s with env.reply := .bytes (withCrc [0x05, 7, f ++ (0 : BitVec 6), 0, 0, 0x01]) }) ∧
    ∀ len : BitVec 14,
      let head : List Byte := [0x90, len.extractLsb' 0 8, (3 : BitVec 2) ++ len.extractLsb' 8 6, 0, 0, 0x01]
      exec (.buildMaintenance len) s = .next { s with env.reply := .bytes (withCrc head) }

/-! ### Sequence arithmetic (43_sequence_arithmetic.md) -/

/-- R162, which the spec marks as derived from R160: antisymmetry for every window, agreement with the modular order inside a window, the inverted numeric order
outside both windows, no transitivity, and the failure of window agreement from 128 on. -/
def Obligations.SequenceComparatorProperties : Prop :=
  (∀ (a b : Byte) (w : Nat), seqCmp a b w = -seqCmp b a w ∧ seqLT w a b = seqGT w b a ∧ seqLE w a b = seqGE w b a ∧
    (seqLT w a b = true ∧ seqEQ a b = false ∧ seqGT w a b = false ∨
     seqLT w a b = false ∧ seqEQ a b = true ∧ seqGT w a b = false ∨
     seqLT w a b = false ∧ seqEQ a b = false ∧ seqGT w a b = true)) ∧
  (∀ (a b : Byte) (w : Nat), w ≤ 127 →
    (1 ≤ (b - a).toNat → (b - a).toNat ≤ w → seqLT w a b = true) ∧
    (256 - w ≤ (b - a).toNat → seqGT w a b = true)) ∧
  (∀ (a b : Byte) (w : Nat), w < (b - a).toNat → (b - a).toNat < 256 - w →
    seqCmp a b w = if a.toNat < b.toNat then 1 else -1) ∧
  (seqLT 8 0 6 = true ∧ seqLT 8 6 14 = true ∧ seqGT 8 0 14 = true) ∧
  ∀ w, 128 ≤ w → ∃ a b : Byte, 1 ≤ (b - a).toNat ∧ (b - a).toNat ≤ w ∧ seqLT w a b = false

/-- R160 and R163: `seq_cmp`, `inc` and `add` answer, and change nothing else. -/
def Obligations.SequenceInstructionsAnswer : Prop :=
  ∀ s : State,
    (∀ (a b : Byte) (w : Nat),
      let order : Int :=
        if a = b then 0
        else if a.toNat < b.toNat then (if b.toNat - a.toNat ≤ w then -1 else 1)
        else if a.toNat - b.toNat ≤ w then 1 else -1
      exec (.seqCmp a b w) s = .next { s with env.reply := .order order }) ∧
    (∀ v : Byte, exec (.inc (.inc v)) s = .next { s with env.reply := .byte (BitVec.ofNat 8 ((v.toNat + 1) % 256)) }) ∧
    ∀ (v : Byte) (k : Nat),
      exec (.inc (.add v k)) s = .next { s with env.reply := .byte (BitVec.ofNat 8 ((v.toNat + k) % 256)) }

/-! ### Queues and the descriptor pool (44_queues.md) -/

/-- R172 and R173 with the capacities of R183: a full queue answers false and stays; else the element is appended, or
inserted at the head. -/
def Obligations.EnqueueAndPushFrontWithinCapacity : Prop :=
  ∀ s : State,
    (∀ (q : HandleQueue) (h : Handle), h < s.cfg.window →
      ((handles s.pool q).length = s.cfg.window →
        exec (.enqueue (.handleIn q h)) s = .next { s with env.reply := .flag false } ∧
        exec (.pushFront (.handleIn q h)) s = .next { s with env.reply := .flag false }) ∧
      ((handles s.pool q).length ≠ s.cfg.window →
        exec (.enqueue (.handleIn q h)) s =
          .next { s with pool := setHandles s.pool q (handles s.pool q ++ [h]), env.reply := .flag true } ∧
        exec (.pushFront (.handleIn q h)) s =
          .next { s with pool := setHandles s.pool q (h :: handles s.pool q), env.reply := .flag true })) ∧
    ∀ r : Completion, (∀ h ∈ r.buffer, h < s.cfg.window) →
      (s.pool.completion.length = s.cfg.window + 4 →
        exec (.enqueue (.recordIn r)) s = .next { s with env.reply := .flag false } ∧
        exec (.pushFront (.recordIn r)) s = .next { s with env.reply := .flag false }) ∧
      (s.pool.completion.length ≠ s.cfg.window + 4 →
        exec (.enqueue (.recordIn r)) s =
          .next { s with pool.completion := s.pool.completion ++ [r], env.reply := .flag true } ∧
        exec (.pushFront (.recordIn r)) s =
          .next { s with pool.completion := r :: s.pool.completion, env.reply := .flag true })

/-- R174 to R176: an empty queue answers none and stays; else `dequeue` takes the head, `head` shows it, and `count` is the
number of elements. R185: `find_seq` answers the first handle of `ack_wait`, head to tail, whose descriptor has the number;
none if there is none. -/
def Obligations.DequeueHeadCountAndFindSeqAnswer : Prop :=
  (∀ s : State,
    (∀ q : HandleQueue,
      (handles s.pool q = [] →
        exec (.dequeue (handleQueueName q)) s = .next { s with env.reply := .elem none } ∧
        exec (.head (handleQueueName q)) s = .next { s with env.reply := .elem none }) ∧
      (∀ h rest, handles s.pool q = h :: rest →
        exec (.dequeue (handleQueueName q)) s =
          .next { s with pool := setHandles s.pool q rest, env.reply := .elem (some (.handle h)) } ∧
        exec (.head (handleQueueName q)) s = .next { s with env.reply := .elem (some (.handle h)) }) ∧
      exec (.count (handleQueueName q)) s = .next { s with env.reply := .count (handles s.pool q).length }) ∧
    (s.pool.completion = [] →
      exec (.dequeue .completion) s = .next { s with env.reply := .elem none } ∧
      exec (.head .completion) s = .next { s with env.reply := .elem none }) ∧
    (∀ r rest, s.pool.completion = r :: rest →
      exec (.dequeue .completion) s = .next { s with pool.completion := rest, env.reply := .elem (some (.record r)) } ∧
      exec (.head .completion) s = .next { s with env.reply := .elem (some (.record r)) }) ∧
    exec (.count .completion) s = .next { s with env.reply := .count s.pool.completion.length }) ∧
  (∀ (s : State) (n : Byte),
    (∀ pre h post, s.pool.ackWait = pre ++ h :: post → (descOf s h).seq = n → (∀ k ∈ pre, (descOf s k).seq ≠ n) →
      exec (.findSeq n) s = .next { s with env.reply := .found (some h) }) ∧
    ((∀ k ∈ s.pool.ackWait, (descOf s k).seq ≠ n) → exec (.findSeq n) s = .next { s with env.reply := .found none }))

/-- R177: `alloc` takes the head of `free` and clears its descriptor; the allocation that finds `free` empty raises
Fatal. -/
def Obligations.AllocTakesTheHeadOrRaisesFatal : Prop :=
  ∀ (s : State) (k : BufferKind),
    (∀ h rest, s.pool.free = h :: rest →
      exec (.alloc k) s = .next { s with pool := allocated k h rest s.pool, env.reply := .handle h }) ∧
    (s.pool.free = [] → s.pool.completion.length ≠ s.cfg.window + 4 →
      exec (.alloc k) s = .next { afterFatal .poolExhausted s with env.reply := .none })

/-- R178, R181 and R252: `release` appends to `free`; `notify` appends an event record unless one of its code waits; the
record each notification action queues, and the start-received latch. -/
def Obligations.ReleaseAndNotificationsAppend : Prop :=
  (∀ s : State,
    (∀ h, h < s.cfg.window → s.pool.free.length ≠ s.cfg.window →
      exec (.release h) s = .next { s with pool.free := s.pool.free ++ [h] }) ∧
    ∀ code : EventCode, code.isEvent = true →
      ((∃ r ∈ s.pool.completion, r.buffer = none ∧ r.code = code) → exec (.notify code) s = .next s) ∧
      ((∀ r ∈ s.pool.completion, r.buffer = none → r.code ≠ code) → s.pool.completion.length ≠ s.cfg.window + 4 →
        exec (.notify code) s = .next { s with
          pool.completion := s.pool.completion ++ [{ buffer := none, actualLength := 0, code := code }] })) ∧
  (∀ s : State, s.pool.completion.length ≠ s.cfg.window + 4 →
    exec .notifyDisconnect s = .next { s with pool := noted .disconnect s.pool } ∧
    exec .notifyStartReceived s =
      .next { s with latch := { s.latch with startRcvd := true }, pool := noted .startReceived s.pool } ∧
    exec .notifyMaintReceived s = .next { s with pool := noted .maintenanceReceived s.pool })

/-- R184: after `RequeueAckWait`, `transmit` is the old `ack_wait` followed by the old `transmit`, the numbers cleared. -/
def Obligations.RequeueAckWaitRestoresTheOrder : Prop :=
  ∀ s : State, s.pool.ackWait.length + s.pool.transmit.length ≤ s.cfg.window →
    exec .requeueAckWait s = .next { s with pool := { s.pool with
      transmit := s.pool.ackWait ++ s.pool.transmit
      ackWait := []
      desc := s.pool.desc.mapIdx fun h d => if h ∈ s.pool.ackWait then { d with seq := 0 } else d } }

/-- The MODEL's own choices where the spec gives no case (logs 13, 15): a handle that is no descriptor stops with a fault,
and the two sending actions do nothing while `transmit` is empty. -/
def Obligations.ModelChoicesOutsideTheRules : Prop :=
  ∀ s : State,
    (∀ h, s.cfg.window ≤ h →
      (∀ q, exec (.enqueue (.handleIn q h)) s = .fault .noDescriptor ∧
            exec (.pushFront (.handleIn q h)) s = .fault .noDescriptor) ∧
      (∀ len code, exec (.enqueue (.recordIn { buffer := some h, actualLength := len, code := code })) s =
            .fault .noDescriptor ∧
          exec (.pushFront (.recordIn { buffer := some h, actualLength := len, code := code })) s =
            .fault .noDescriptor) ∧
      exec (.release h) s = .fault .noDescriptor ∧
      ∀ item : TxItem, item.desc = some h → exec (.txSend item) s = .fault .noDescriptor) ∧
    (s.pool.transmit = [] → exec .sendNewData s = .next s ∧ exec .sendMaintMessage s = .next s)

/-! ### The reply timer (45_timer.md) -/

/-- R200 to R203: the timer starts at `PKT_TIMEOUT` and stops where it is; a tick kicks the transmitter, counts a running timer
down, and at zero drops the running flag before `TimerExpired` is dispatched. -/
def Obligations.TimerStartsStopsAndTicks : Prop :=
  (∀ s : State,
    exec .startTimer s = .next { s with timer := { running := true, remaining := s.cfg.pktTimeout } } ∧
    exec .stopTimer s = .next { s with timer := { running := false, remaining := s.timer.remaining } }) ∧
  (∀ s : State,
    (s.latch.fatal = true → exec .tick s = .next s) ∧
    (s.latch.fatal = false → ∀ t, exec .txKick s = .next t →
      (t.timer.running = false → exec .tick s = .next t) ∧
      (t.timer.running = true → 2 ≤ t.timer.remaining →
        exec .tick s = .next { t with timer.remaining := t.timer.remaining - 1 }) ∧
      (t.timer.running = true → t.timer.remaining = 1 →
        exec .tick s = exec (.dispatch .timerExpired) { t with timer := { running := false, remaining := 0 } })) ∧
    (s.latch.fatal = false → s.tx.inflight ≠ none ∨ s.tx.fifo = [] →
      (s.timer.running = false → exec .tick s = .next s) ∧
      (s.timer.running = true → 2 ≤ s.timer.remaining →
        exec .tick s = .next { s with timer.remaining := s.timer.remaining - 1 }) ∧
      (s.timer.running = true → s.timer.remaining = 1 →
        exec .tick s = exec (.dispatch .timerExpired) { s with timer := { running := false, remaining := 0 } }) ∧
      (s.timer.running = true → s.timer.remaining = 1 → AtRest s → s.link.state = .run → s.link.lineConnected = true →
        s.tx.inflight ≠ none →
        exec .tick s = .next { s with timer := { running := false, remaining := 0 }, link.srep := true })))

/-- R202: a timer started with `PKT_TIMEOUT = k` expires on the k-th tick after the start, if nothing stops or restarts it
first; here with nothing for the kick to send. -/
def Obligations.TimerExpiresOnTheConfiguredTick : Prop :=
  ∀ s : State, s.latch.fatal = false → s.tx.inflight ≠ none ∨ s.tx.fifo = [] → 1 ≤ s.cfg.pktTimeout →
    (∀ k, k < s.cfg.pktTimeout →
      ticks k { s with timer := { running := true, remaining := s.cfg.pktTimeout } } =
        .next { s with timer := { running := true, remaining := s.cfg.pktTimeout - k } }) ∧
    ticks s.cfg.pktTimeout { s with timer := { running := true, remaining := s.cfg.pktTimeout } } =
      exec (.dispatch .timerExpired) { s with timer := { running := false, remaining := 0 } }

/-! ### The dispatcher (46_dispatch_engine.md) -/

/-- R215: a fatal link takes no event; an event that arrives while a dispatch runs is merged into `pending`. R213: the
pending event taken next is the highest in the order of the rule. -/
def Obligations.DispatchGuardPostsAndPendingIsTakenByPriority : Prop :=
  (∀ (e : EventKind) (s : State),
    (s.latch.fatal = true → exec (.dispatch e) s = .next s) ∧
    (s.latch.fatal = false → s.disp.scanning = true → ∃ t, exec (.dispatch e) s = .next t ∧
      t = { s with disp := { s.disp with pending := t.disp.pending, recurseScan := true } } ∧
      ∀ k, pendingHas t.disp.pending k = (pendingHas s.disp.pending k || k == e))) ∧
  (let order : List EventKind := [.userHalt, .userMaintenanceMode, .userStartup, .lineStatusChange, .timerExpired,
    .transmitDone, .packetReceived, .hostQueueChange]
  ∀ m : EventMask,
    (∀ e, pendingFirst m = some e ↔
      pendingHas m e = true ∧ ∀ e' ∈ order.takeWhile (fun k => k != e), pendingHas m e' = false) ∧
    (pendingFirst m = none ↔ m = noEvents))

/-- R217 and R218: a scan fires the first entry of the table that matches, and only that one; its actions run in order and
then its new state becomes current, unless Fatal was raised (R221). -/
def Obligations.ScanFiresTheFirstMatchingRule : Prop :=
  (∀ (ev : Option EventKind) (s : State) (f : Flow), scan ev s = some f ↔
    ∃ (k : Nat) (r : Rule), (ruleTable kickInDispatch)[k]? = some r ∧ r.applies ev (scanPacket ev s) s = true ∧
      (∀ (j : Nat) (r' : Rule), j < k → (ruleTable kickInDispatch)[j]? = some r' → r'.applies ev (scanPacket ev s) s = false) ∧
      f = r.fire (scanPacket ev s) { s with disp.scanIndex := k }) ∧
  (∀ (ev : Option EventKind) (s : State), scan ev s = none ↔
    ∀ r ∈ ruleTable kickInDispatch, r.applies ev (scanPacket ev s) s = false) ∧
  ∀ (r : Rule) (pkt : Option RxPkt) (s s1 : State),
    (runActions (r.actions pkt) s = .go s1 → r.fire pkt s = .go { s1 with link.state := r.newState }) ∧
    (runActions (r.actions pkt) s = .ended s1 → r.fire pkt s = .ended s1)

/-- R216: what a dispatch that passes the guard answers is what the loop gives, however long it runs. -/
def Obligations.DispatchFollowsTheLoop : Prop :=
  ∀ (e : EventKind) (s t : State), s.latch.fatal = false → s.disp.scanning = false →
    exec (.dispatch e) s = .next t → Loops (some e) { s with disp.scanning := true } t

/-- R216 and R220: every dispatch that passes the guard ends, and ends quiescent with the dispatcher at rest, or in the
fatal condition. -/
def Obligations.DispatchCompletesQuiescent : Prop :=
  ∀ (e : EventKind) (s : State), s.latch.fatal = false → s.disp.scanning = false →
    ∃ t, exec (.dispatch e) s = .next t ∧ AtRest t ∧
      ((t.latch.fatal = false ∧ Quiescent t) ∨ (t.latch.fatal = true ∧ t.link.state = .halt))

/-- R220 for the whole machine: from every state whose handles are owned once, under a configuration in range (R8), no
instruction outlives the bound of the model's loops. -/
def Obligations.NoInstructionOverruns : Prop :=
  ∀ (i : Instr) (s : State), Owned s → s.cfg.InRange → exec i s ≠ .fault .dispatchOverrun

/-! ### Host, transport and transmitter (48_interfaces.md) -/

/-- R301 and R302: an accepted buffer takes the head of `free`, and waits at the tail of its queue where no entry has use for
it; an empty pool raises Fatal. R303: a buffer offered while fatal, while the queue is closed, or longer than 16383 is
refused, and nothing changes. -/
def Obligations.HostBuffersAcceptedOrRefused : Prop :=
  (∀ (s : State) (address length : Nat) (eom : Bool), Ready s → length ≤ 16383 →
    (s.latch.rxAccept = true → s.pool.free = [] → s.pool.completion.length ≠ s.cfg.window + 4 →
      exec (.assignReceiveBuffer address length) s =
        .next { afterFatal .poolExhausted s with env.reply := .none }) ∧
    (s.latch.txAccept = true → s.pool.free = [] → s.pool.completion.length ≠ s.cfg.window + 4 →
      exec (.enqueueTransmitBuffer address length eom) s =
        .next { afterFatal .poolExhausted s with env.reply := .none }) ∧
    ∀ h rest, s.pool.free = h :: rest → Quiescent s →
      (s.latch.rxAccept = true → s.pool.receive.length ≠ s.cfg.window →
        exec (.assignReceiveBuffer address length) s = .next { s with
          pool := { s.pool with
            free := rest, receive := s.pool.receive ++ [h]
            desc := s.pool.desc.modify h fun d =>
              { d with kind := .receive, actual := 0, seq := 0, eom := false, address := address,
                       length := BitVec.ofNat 14 length } }
          env.reply := .handle h }) ∧
      (s.latch.txAccept = true → s.pool.transmit.length ≠ s.cfg.window →
        (s.link.state ≠ .run ∧ s.link.state ≠ .maintenance ∨ s.tx.inflight ≠ none ∨ s.tx.fifo ≠ []) →
        exec (.enqueueTransmitBuffer address length eom) s = .next { s with
          pool := { s.pool with
            free := rest, transmit := s.pool.transmit ++ [h]
            desc := s.pool.desc.modify h fun d =>
              { d with kind := .transmitData, actual := 0, seq := 0, eom := eom, address := address,
                       length := BitVec.ofNat 14 length } }
          env.reply := .handle h })) ∧
  (∀ (s : State) (address length : Nat) (eom : Bool),
    (s.latch.fatal = true ∨ s.latch.rxAccept = false ∨ 16383 < length →
      exec (.assignReceiveBuffer address length) s = .next { s with env.reply := .refused }) ∧
    (s.latch.fatal = true ∨ s.latch.txAccept = false ∨ 16383 < length →
      exec (.enqueueTransmitBuffer address length eom) s = .next { s with env.reply := .refused }))

/-- R302 with DR27: in Run with the transmitter idle, nothing to retransmit and no latch before it, the message is numbered
N+1 and handed to the transport at once. -/
def Obligations.RunSendsANewMessageAtOnce : Prop :=
  ∀ (s : State) (address length : Nat) (eom : Bool) (h : Handle) (rest : List Handle) (as : List SendAnswer),
    Ready s → s.link.state = .run → s.link.lineConnected = true → s.link.snak = false → s.link.srep = false →
    s.link.t = s.link.n + 1 → s.latch.txAccept = true → length ≤ 16383 → s.pool.free = h :: rest →
    h < s.pool.desc.length → s.pool.transmit = [] → 1 ≤ s.cfg.window → s.pool.ackWait.length < s.cfg.window →
    s.tx.inflight = none → s.tx.fifo = [] → s.cfg.corruptPermille = 0 → s.env.answers = .acceptedLater :: as →
    let num := s.link.n + 1
    let frame := buildData (memReadBytes s.env.mem address length) (BitVec.ofNat 14 length) s.cfg.dataFlags num s.link.r
    exec (.enqueueTransmitBuffer address length eom) s = .next { s with
      link := { s.link with n := num, t := num + 1, sack := false }
      pool := { s.pool with
        free := rest, ackWait := s.pool.ackWait ++ [h]
        desc := s.pool.desc.modify h fun d =>
          { d with kind := .transmitData, actual := 0, seq := num, eom := eom, address := address,
                   length := BitVec.ofNat 14 length } }
      tx.inflight := some { bytes := frame, kind := .data, num := num, desc := none }
      env.answers := as, env.wire := s.env.wire ++ [frame], env.reply := .handle h }

/-- R305 and R306: the kill operations hand the waiting buffers back with length 0, in order, `ack_wait` first, and set the
gate. -/
def Obligations.KillsReturnTheBuffers : Prop :=
  ∀ (s : State) (enable : Bool),
    (s.latch.fatal = true →
      exec (.killReceiveBuffers enable) s = .next { s with env.reply := .flag false } ∧
      exec (.killTransmitBuffers enable) s = .next { s with env.reply := .flag false }) ∧
    (Ready s → Quiescent s →
      (s.pool.completion.length + s.pool.receive.length ≤ s.cfg.window + 4 →
        exec (.killReceiveBuffers enable) s = .next { s with
          pool := handedOver s.pool.receive (fun _ => 0) .rxBufferKilled { s.pool with receive := [] }
          latch.rxAccept := enable
          env.reply := .flag true }) ∧
      (s.pool.completion.length + s.pool.ackWait.length + s.pool.transmit.length ≤ s.cfg.window + 4 →
        exec (.killTransmitBuffers enable) s = .next { s with
          pool := handedOver (s.pool.ackWait ++ s.pool.transmit) (fun _ => 0) .txBufferKilled
            { s.pool with ackWait := [], transmit := [] }
          latch.txAccept := enable
          env.reply := .flag true }))

/-- R307 and R309: `set_line_enabled` forwards a level; `host_pickup` takes the oldest record and frees its buffer, the
fatal condition or not. That `set_line_enabled` leaves the level and answers false while fatal is the model's inference
from R300 and R346, R307 having no such check (log 18); that it answers true otherwise is the model's choice (log 17). -/
def Obligations.PickupAndLineEnable : Prop :=
  ∀ s : State,
    (∀ b, (s.latch.fatal = true → exec (.setLineEnabled b) s = .next { s with env.reply := .flag false }) ∧
      (s.latch.fatal = false →
        exec (.setLineEnabled b) s = .next { s with env.lineEnable := b, env.reply := .flag true })) ∧
    (s.pool.completion = [] → exec .hostPickup s = .next { s with env.reply := .pickup none }) ∧
    ∀ r rest, s.pool.completion = r :: rest →
      (r.buffer = none →
        exec .hostPickup s = .next { s with pool.completion := rest, env.reply := .pickup (some r) }) ∧
      (∀ h, r.buffer = some h → s.pool.free.length ≠ s.cfg.window →
        exec .hostPickup s = .next { s with
          pool := { s.pool with completion := rest, free := s.pool.free ++ [h] }, env.reply := .pickup (some r) })

/-- R260: `user_halt` ends in Halt with the timer stopped from every state, and changes nothing else. R262 with R308:
`user_maintenance` enters Maintenance from every state, the timer stopped; here where DR05 has nothing to send. -/
def Obligations.UserHaltAndMaintenanceAlwaysEnter : Prop :=
  (∀ s : State, Ready s →
    exec .userHalt s = .next { s with link.state := .halt, timer.running := false, env.reply := .flag true }) ∧
  (∀ s : State, Ready s → s.tx.inflight ≠ none ∨ s.tx.fifo ≠ [] ∨ s.pool.transmit = [] →
    exec .userMaintenance s =
      .next { s with link.state := .maintenance, timer.running := false, env.reply := .flag true })

/-- R261 and R269: `user_startup` in Halt with the line up resets the variables, sends STRT and starts the timer; in any
other state, or with the line down, it is lost (R375). -/
def Obligations.UserStartupStartsTheLink : Prop :=
  ∀ s : State, Ready s →
    (Quiescent s → s.link.state ≠ .halt ∨ s.link.lineConnected = false →
      exec .userStartup s = .next { s with env.reply := .flag true }) ∧
    ∀ h rest, s.link.state = .halt → s.link.lineConnected = true →
      s.pool.ackWait.length + s.pool.transmit.length ≤ s.cfg.window →
      s.pool.free.length + (s.tx.fifo.filterMap (·.desc)).length ≤ s.cfg.window →
      s.pool.free ++ s.tx.fifo.filterMap (·.desc) = h :: rest →
      let frame := buildStart s.cfg.ctlFlags
      let started := stagedControl frame h rest
        { variablesReset s with
          link := { (variablesReset s).link with state := .iStart }
          timer := { running := true, remaining := s.cfg.pktTimeout }
          env.reply := .flag true }
      (s.tx.inflight ≠ none → exec .userStartup s = .next started) ∧
      ∀ as, s.tx.inflight = none → s.cfg.corruptPermille = 0 → s.env.answers = .acceptedLater :: as →
        exec .userStartup s = .next { started with
          tx.fifo := [], tx.inflight := some (controlItem frame h)
          env.answers := as, env.wire := s.env.wire ++ [frame] }

/-- R310, R311 and R313: `tx_send` stages its frame at the tail and kicks; `tx_kick` offers the head, and does nothing while a
frame is in flight or none is staged. -/
def Obligations.TransmitterStagesAndKicks : Prop :=
  ∀ s : State, s.latch.fatal = false →
    (∀ item : TxItem, (∀ h ∈ item.desc, h < s.cfg.window) →
      exec (.txSend item) s = exec .txKick { s with tx.fifo := s.tx.fifo ++ [item] } ∧
      Sends (exec (.txSend item) s) { s with tx.fifo := s.tx.fifo ++ [item] }) ∧
    Sends (exec .txKick s) s ∧
    (s.tx.fifo = [] → exec .txKick s = .next s)

/-- R312 and R317: with nothing in flight nothing happens; else the item leaves, a control frame's descriptor is free again,
`tx_done_kind` and `tx_done_num` say what was sent, and `TransmitDone` is dispatched before the next frame is offered. -/
def Obligations.TransmitCompleteLandsTheFrame : Prop :=
  ∀ (s : State) (i : Instr), i = .transmitComplete ∨ i = .onTransmitComplete → s.latch.fatal = false →
    (s.tx.inflight = none → exec i s = .next s) ∧
    ∀ item, s.tx.inflight = some item → (item.desc ≠ none → s.pool.free.length ≠ s.cfg.window) →
      (∀ t, exec (.dispatch .transmitDone) { s with
          tx := { s.tx with inflight := none, doneKind := item.kind, doneNum := item.num }
          pool.free := s.pool.free ++ item.desc.toList } = .next t → exec i s = exec .txKick t) ∧
      (s.disp.scanning = true → s.tx.fifo = [] → exec i s = .next (completedInside item s)) ∧
      (AtRest s → s.link.state = .halt → s.tx.fifo = [] →
        exec i s = .next { s with
          tx := { s.tx with inflight := none, doneKind := item.kind, doneNum := item.num }
          pool.free := s.pool.free ++ item.desc.toList }) ∧
      (∀ x xs as, AtRest s → s.link.state = .run → s.link.lineConnected = true → item.kind = .data → item.desc = none →
        s.tx.fifo = x :: xs → s.cfg.corruptPermille = 0 → s.env.answers = .acceptedLater :: as →
        exec i s = .next { s with
          tx := { s.tx with inflight := some x, fifo := xs, doneKind := .data, doneNum := item.num }
          link.x := item.num
          timer := if seqLT s.cfg.window s.link.a item.num = true
                   then { running := true, remaining := s.cfg.pktTimeout }
                   else { running := false, remaining := s.timer.remaining }
          env.answers := as, env.wire := s.env.wire ++ [x.bytes] })

/-- R317: a completion report is `transmit_complete()` unless the link is fatal, and a transport that completes a send inside
`send` is `accepted = true` followed immediately by `transmit_complete()`; the second clause is of states whose handles are
owned once, under a configuration in range, where the bound of the model's loops is never met (log 16). -/
def Obligations.SynchronousSendIsSendThenComplete : Prop :=
  (∀ s : State, exec .onTransmitComplete s = if s.latch.fatal = true then .next s else exec .transmitComplete s) ∧
  ∀ (s s1 : State) (x : TxItem) (xs : List TxItem), Owned s → s.cfg.InRange → s.latch.fatal = false →
    s.tx.inflight = none → s.tx.fifo = x :: xs → offerFrame x.bytes s = (.acceptedNow, s1) →
    exec .txKick s = exec .transmitComplete { s1 with tx.fifo := xs, tx.inflight := some x }

/-- R314, R321 and R322: `transport.send` records the frames the transport accepts; the corruption policy, when on, may pass
a frame unchanged, drop it, when it counts as sent, or invert the chosen bits of the copy that is sent; each listed answer and
choice is taken off its list. Where no answer or choice is listed the value is free, the counter of free values advances, and
a free answer delivers no frame inside the send (logs 9, 10, 11). That position 8*i + j names bit j of byte i is the model's
choice (log 22; R322 numbers no positions). -/
def Obligations.TransportAndCorruptionPolicy : Prop :=
  ∀ (s : State) (b : List Byte),
    (∀ a as, s.env.answers = a :: as →
      exec (.transportSend b) s = .next { s with
        env.answers := as
        env.wire := s.env.wire ++ (if a = .refused then [] else [b])
        env.reply := .flag (decide (a ≠ .refused)) } ∧
      (s.cfg.corruptPermille = 0 → offerFrame b s =
        (a, { s with env.answers := as, env.wire := s.env.wire ++ (if a = .refused then [] else [b]) })) ∧
      (∀ ds, s.cfg.corruptPermille ≠ 0 → s.env.draws = .pass :: ds → offerFrame b s = (a, { s with
        env.draws := ds, env.answers := as, env.wire := s.env.wire ++ (if a = .refused then [] else [b]) }))) ∧
    (s.env.answers = [] →
      let a := silently (Config.freeAnswer s.env.freeCount)
      exec (.transportSend b) s = .next { s with
        env.freeCount := s.env.freeCount + 1
        env.wire := s.env.wire ++ (if a = .refused then [] else [b])
        env.reply := .flag (decide (a ≠ .refused)) } ∧
      (s.cfg.corruptPermille = 0 → offerFrame b s = (a, { s with
        env.freeCount := s.env.freeCount + 1
        env.wire := s.env.wire ++ (if a = .refused then [] else [b]) })) ∧
      (∀ ds, s.cfg.corruptPermille ≠ 0 → s.env.draws = .pass :: ds → offerFrame b s = (a, { s with
        env.draws := ds, env.freeCount := s.env.freeCount + 1
        env.wire := s.env.wire ++ (if a = .refused then [] else [b]) }))) ∧
    (s.cfg.corruptPermille ≠ 0 → s.env.draws = [] → offerFrame b s = offerFrame b { s with
      env.draws := [Config.freeDraw s.env.freeCount], env.freeCount := s.env.freeCount + 1 }) ∧
    (∀ ds, s.cfg.corruptPermille ≠ 0 → s.env.draws = .drop :: ds →
      offerFrame b s = (.acceptedNow, { s with env.draws := ds })) ∧
    ∀ bits ds a as, s.cfg.corruptPermille ≠ 0 → s.env.draws = .flip bits :: ds → s.env.answers = a :: as →
      ∃ b', b'.length = b.length ∧
        (∀ i j, i < b.length → j < 8 →
          (b'.getD i 0).getLsbD j = ((b.getD i 0).getLsbD j ^^ decide (8 * i + j ∈ bits))) ∧
        offerFrame b s = (a, { s with
          env.draws := ds, env.answers := as, env.wire := s.env.wire ++ (if a = .refused then [] else [b']) })

/-- R148: what the receive path does with each result of `parse`, with the corruption policy off or its choice Pass. In
states other than Run an error is taken into `rx_pkt` and ignored; in Halt so is every packet but a maintenance message
(R289). R322 and R323: a frame the policy drops changes nothing, and of a frame it flips the inverted copy is received, as
one that passes is (that position 8*i + j names bit j of byte i is the model's choice, log 22); where no choice is listed it
is free, and the counter of free values advances (log 10). Receiving a frame as an instruction is receiving its bytes, in
every state. -/
def Obligations.ReceptionFollowsTheParseTable : Prop :=
  (∀ (bs : List Byte) (s s1 : State), s.latch.fatal = false →
    (s.cfg.corruptPermille = 0 ∧ s1 = s) ∨
      (s.cfg.corruptPermille ≠ 0 ∧ ∃ ds, s.env.draws = .pass :: ds ∧ s1 = { s with env.draws := ds }) →
    let b0 := bs.getD 0 0
    let posts := fun rx => exec (.onReceive bs) s = exec (.dispatch .packetReceived) { s1 with tx.rxPkt := some rx }
    (∀ p, parse bs = .packet p → posts (.packet p)) ∧
    (parse bs = .messageError .headerCRC → b0 = 0x81 ∨ b0 = 0x05 → posts (.error 1)) ∧
    (parse bs = .messageError .dataCRC → b0 = 0x81 → posts (.error 2)) ∧
    (parse bs = .messageError .tooShort ∨ parse bs = .messageError .badType ∨ parse bs = .messageError .badSubtype ∨
      (parse bs = .messageError .headerCRC ∧ b0 = 0x90) ∨ (parse bs = .messageError .dataCRC ∧ b0 = 0x90) →
      exec (.onReceive bs) s = .next s1)) ∧
  (∀ (bs : List Byte) (s : State) (bits : List Nat) (ds : List Draw), s.latch.fatal = false →
    s.cfg.corruptPermille ≠ 0 → s.env.draws = .flip bits :: ds →
    ∃ b', b'.length = bs.length ∧
      (∀ i j, i < bs.length → j < 8 →
        (b'.getD i 0).getLsbD j = ((bs.getD i 0).getLsbD j ^^ decide (8 * i + j ∈ bits))) ∧
      exec (.onReceive bs) s = exec (.onReceive b') { s with env.draws := .pass :: ds }) ∧
  (∀ (bs : List Byte) (s : State), s.latch.fatal = false → s.cfg.corruptPermille ≠ 0 → s.env.draws = [] →
    exec (.onReceive bs) s = exec (.onReceive bs) { s with
      env.draws := [Config.freeDraw s.env.freeCount], env.freeCount := s.env.freeCount + 1 }) ∧
  (∀ (bs : List Byte) (s : State), Ready s →
    (s.cfg.corruptPermille = 0 → s.link.state = .halt → ∀ p, parse bs = .packet p → p.cls ≠ .maint →
      exec (.onReceive bs) s = .next { s with tx.rxPkt := some (.packet p) }) ∧
    (s.cfg.corruptPermille = 0 → s.link.state ≠ .run → Quiescent s →
      (parse bs = .messageError .headerCRC → bs.getD 0 0 ≠ 0x90 →
        exec (.onReceive bs) s = .next { s with tx.rxPkt := some (.error 1) }) ∧
      (parse bs = .messageError .dataCRC → bs.getD 0 0 ≠ 0x90 →
        exec (.onReceive bs) s = .next { s with tx.rxPkt := some (.error 2) })) ∧
    ∀ ds, s.cfg.corruptPermille ≠ 0 → s.env.draws = .drop :: ds →
      exec (.onReceive bs) s = .next { s with env.draws := ds }) ∧
  (∀ (i : Instr) (b : List Byte) (s : State), encode i = some b → exec i s = exec (.onReceive b) s)

/-- R318: the level is recorded; in Run with the line down the dispatch fires DR13 (R273), in every other state only the
level changes. -/
def Obligations.LineStatusChanges : Prop :=
  ∀ (s : State) (c : Bool),
    (s.latch.fatal = true → exec (.onLineStatusChange c) s = .next s) ∧
    (Ready s → Quiescent s → s.link.state ≠ .run ∨ c = true →
      exec (.onLineStatusChange c) s = .next { s with link.lineConnected := c }) ∧
    (Ready s → s.link.state = .run → s.pool.completion.length ≠ s.cfg.window + 4 →
      s.pool.ackWait.length + s.pool.transmit.length ≤ s.cfg.window →
      exec (.onLineStatusChange false) s = .next { s with
        link := { s.link with lineConnected := false, state := .halt }
        timer.running := false
        latch.startRcvd := false
        pool := requeued (noted .disconnect s.pool) })

/-- R57 and R370: the values after reset, for any configuration, and that `reset` gives them from every state, the
configuration kept. The fields R57 leaves unspecified are not spoken of. That the boundary `env` (host memory, the line
level, what waits and what was sent) is kept is the model's inference (log 31). -/
def Obligations.ResetLeavesTheStatedValues : Prop :=
  (∀ s : State, ∃ t, exec .reset s = .next t ∧ t.cfg = s.cfg ∧ t.env = s.env ∧ t.pool.desc.length = s.cfg.window ∧
    t.link = { state := .halt, r := 0, n := 0, a := 0, t := 1, x := 0, sack := false, snak := false, srep := false,
               nakReason := 0, lineConnected := false } ∧
    t.timer = { running := false, remaining := 0 } ∧
    t.disp.scanning = false ∧ t.disp.recurseScan = false ∧ t.disp.pending = noEvents ∧
    t.tx.rxPkt = none ∧ t.tx.fifo = [] ∧ t.tx.inflight = none ∧
    t.pool.free = List.range s.cfg.window ∧ t.pool.receive = [] ∧ t.pool.transmit = [] ∧ t.pool.ackWait = [] ∧
    t.pool.completion = [] ∧
    t.latch = { fatal := false, startRcvd := false, rxAccept := true, txAccept := true }) ∧
  exec .reset State.reset = .next State.reset

/-- R346 with R300: while `fatal` is set every host request is refused, every transport callback, tick and event is ignored,
`tx_fifo` is frozen and `host_pickup` works. The second clause says of every instruction but `reset` that what is staged,
in flight or received stays as it is and the link stays fatal and halted. That `set_line_enabled` is refused too, and that
the transmitter's operations, and the actions that stage or discard frames, do nothing when given on their own, are the
model's inferences (logs 18, 19). -/
def Obligations.FatalRefusesEverythingButPickup : Prop :=
  ∀ s : State, s.latch.fatal = true →
    (∀ i b, encode i = some b → exec i s = .next s) ∧
    (∀ i t, i ≠ .reset → exec i s = .next t →
      t.tx = s.tx ∧ t.latch.fatal = true ∧ (s.link.state = .halt → t.link.state = .halt)) ∧
    (∀ i ∈ ([.tick, .txKick, .transmitComplete, .onTransmitComplete, .sendStrt, .sendStack, .sendAck, .sendNak, .sendRep,
        .sendNewData, .retransmitT, .sendMaintMessage, .resetVariables] : List Instr), exec i s = .next s) ∧
    (∀ b, exec (.sendControl b) s = .next s) ∧ (∀ p, exec (.nakMissing p) s = .next s) ∧
    (∀ b, exec (.onReceive b) s = .next s) ∧ (∀ c, exec (.onLineStatusChange c) s = .next s) ∧
    (∀ e, exec (.dispatch e) s = .next s) ∧
    (∀ item : TxItem, (∀ h ∈ item.desc, h < s.cfg.window) → exec (.txSend item) s = .next s) ∧
    (∀ i ∈ ([.userStartup, .userHalt, .userMaintenance] : List Instr),
      exec i s = .next { s with env.reply := .flag false }) ∧
    (∀ address length eom,
      exec (.assignReceiveBuffer address length) s = .next { s with env.reply := .refused } ∧
      exec (.enqueueTransmitBuffer address length eom) s = .next { s with env.reply := .refused }) ∧
    (∀ b, exec (.killReceiveBuffers b) s = .next { s with env.reply := .flag false } ∧
      exec (.killTransmitBuffers b) s = .next { s with env.reply := .flag false } ∧
      exec (.setLineEnabled b) s = .next { s with env.reply := .flag false }) ∧
    (s.pool.completion = [] → exec .hostPickup s = .next { s with env.reply := .pickup none }) ∧
    ∀ r rest, s.pool.completion = r :: rest →
      (r.buffer = none →
        exec .hostPickup s = .next { s with pool.completion := rest, env.reply := .pickup (some r) }) ∧
      (∀ h, r.buffer = some h → s.pool.free.length ≠ s.cfg.window →
        exec .hostPickup s = .next { s with
          pool := { s.pool with completion := rest, free := s.pool.free ++ [h] }, env.reply := .pickup (some r) })

/-! ### Actions (46_dispatch_engine.md section 5) -/

/-- R233 to R238 and R253: what each latch action writes, and that it writes nothing else. -/
def Obligations.LatchActionsWriteTheirLatches : Prop :=
  ∀ s : State,
    exec .setSACK s = .next { s with link := { s.link with sack := true, snak := false } } ∧
    (∀ r, exec (.setSNAK r) s = .next { s with link := { s.link with snak := true, sack := false, nakReason := r } }) ∧
    (∀ r, exec (.setSNAKFromError r) s =
      .next { s with link := { s.link with snak := true, sack := false, nakReason := r } }) ∧
    exec .clearSNAK s = .next { s with link := { s.link with snak := false } } ∧
    exec .setSREP s = .next { s with link := { s.link with srep := true } } ∧
    exec .clearSREP s = .next { s with link := { s.link with srep := false } } ∧
    exec .clearSACK s = .next { s with link := { s.link with sack := false } } ∧
    exec .clearStartReceived s = .next { s with latch := { s.latch with startRcvd := false } }

/-- R242, R243 and R251: what each action on T, X and the timer writes, and that it writes nothing else. -/
def Obligations.VariableActionsFollowTheComparator : Prop :=
  ∀ s : State,
    let w := s.cfg.window
    exec .bumpT s =
      .next (if seqCmp s.link.t s.link.a w ≠ 1 then { s with link := { s.link with t := s.link.a + 1 } } else s) ∧
    exec .setTToAplus1 s = .next { s with link := { s.link with t := s.link.a + 1 } } ∧
    exec .stopTimerIfAGeX s =
      .next (if seqCmp s.link.a s.link.x w ≠ -1 then { s with timer := { s.timer with running := false } } else s) ∧
    exec .setXToSentNum s = .next { s with link := { s.link with x := s.tx.doneNum } } ∧
    exec .startOrStopTimerByAX s =
      .next { s with timer := if seqCmp s.link.a s.link.x w = -1 then { running := true, remaining := s.cfg.pktTimeout }
                              else { s.timer with running := false } }

/-- R232: the variables of a fresh link, the unacknowledged buffers at the head of `transmit`, the staged frames
discarded with their descriptors freed in order; here of a link that is not fatal. -/
def Obligations.ResetVariablesFreshensTheLink : Prop :=
  ∀ s : State, s.latch.fatal = false → s.pool.ackWait.length + s.pool.transmit.length ≤ s.cfg.window →
    s.pool.free.length + (s.tx.fifo.filterMap (·.desc)).length ≤ s.cfg.window →
    exec .resetVariables s = .next { s with
      link := { s.link with r := 0, n := 0, a := 0, x := 0, t := 1, sack := false, snak := false, srep := false,
                            nakReason := 0 }
      pool := { requeued s.pool with free := s.pool.free ++ s.tx.fifo.filterMap (·.desc) }
      tx := { s.tx with fifo := [] } }

/-- R241: the prefix of `ack_wait` that RESP acknowledges goes to `completion` in order, each record with the buffer's true
length, and A becomes RESP. -/
def Obligations.CompleteAckedTakesThePrefix : Prop :=
  ∀ (s : State) (p : Packet), s.pool.completion.length + s.pool.ackWait.length ≤ s.cfg.window + 4 →
    ∃ done left, s.pool.ackWait = done ++ left ∧
      (∀ h ∈ done, seqCmp (descOf s h).seq p.resp s.cfg.window ≠ 1) ∧
      (∀ h, left.head? = some h → seqCmp (descOf s h).seq p.resp s.cfg.window = 1) ∧
      exec (.completeAcked p) s = .next { s with
        link := { s.link with a := p.resp }
        pool := { s.pool with
          ackWait := left
          completion := s.pool.completion ++
            done.map fun h => { buffer := some h, actualLength := (descOf s h).length, code := .txBufferComplete }
          desc := s.pool.desc.mapIdx fun h d =>
            if h ∈ done then { d with actual := d.length, eventCode := .txBufferComplete } else d } }

/-- R244 and R255: a payload that fits the head of `receive` is written to the host's buffer, byte for byte and nowhere
else, and the buffer goes to `completion`; with no buffer, or one too short, nothing is delivered, and in Run the reason
is latched. -/
def Obligations.DeliveryActionsFillTheBuffer : Prop :=
  ∀ (s : State) (p : Packet), p.payload.length = p.count.toNat →
    (s.pool.receive = [] →
      exec (.giveBufferToUser p) s =
        .next { s with link := { s.link with snak := true, sack := false, nakReason := 8 } } ∧
      exec (.deliverMaintToHost p) s = .next s) ∧
    ∀ h rest, s.pool.receive = h :: rest →
      ((descOf s h).length.toNat < p.count.toNat →
        exec (.giveBufferToUser p) s =
          .next { s with link := { s.link with snak := true, sack := false, nakReason := 16 } } ∧
        exec (.deliverMaintToHost p) s = .next s) ∧
      (p.count.toNat ≤ (descOf s h).length.toNat → s.pool.completion.length ≠ s.cfg.window + 4 →
        ∃ m, (s.env.mem.wf = true → m.wf = true ∧ ∀ a, memRead m a =
            if (descOf s h).address ≤ a ∧ a < (descOf s h).address + p.count.toNat
            then p.payload.getD (a - (descOf s h).address) 0 else memRead s.env.mem a) ∧
          exec (.giveBufferToUser p) s = .next { s with
            env.mem := m
            pool := handedOver [h] (fun _ => p.count) .rxBufferComplete { s.pool with receive := rest }
            link := { s.link with r := s.link.r + 1, sack := true, snak := false } } ∧
          exec (.deliverMaintToHost p) s = .next { s with
            env.mem := m
            pool := handedOver [h] (fun _ => p.count) .maintBufferComplete { s.pool with receive := rest } })

/-- R245, R246 and R256: the frame each data-sending action stages, the buffer's way and the variables it writes; here of a
link that is not fatal. -/
def Obligations.DataSendingActionsStageTheirFrames : Prop :=
  ∀ s : State, s.latch.fatal = false →
    (∀ h rest, s.pool.transmit = h :: rest → s.pool.ackWait.length ≠ s.cfg.window →
      exec .sendNewData s = exec .txKick (stagedData h rest s) ∧
      Sends (exec .sendNewData s) (stagedData h rest s)) ∧
    (∀ h, findSeq s s.link.t = some h →
      (∀ t, exec .txKick { restagedData h s with link.t := s.link.t } = .next t →
        exec .retransmitT s = .next (if t.latch.fatal = true then t else { t with link.t := t.link.t + 1 })) ∧
      Sends (exec .retransmitT s) (restagedData h s)) ∧
    (findSeq s s.link.t = none → s.pool.completion.length ≠ s.cfg.window + 4 →
      exec .retransmitT s = .next (afterFatal .missingRetransmitBuffer s)) ∧
    ∀ h rest, s.pool.transmit = h :: rest → s.pool.completion.length ≠ s.cfg.window + 4 →
      exec .sendMaintMessage s = exec .txKick (stagedMaint h rest s) ∧
      Sends (exec .sendMaintMessage s) (stagedMaint h rest s)

/-- R231, R239, R240 and R247 to R249: each control action stages its frame in the head of `free`, and raises Fatal where
`free` is empty. R250: one NAK for every number from R up to and without NUM, each in a descriptor of its own and in order,
with nothing else changed; where the pool runs out, Fatal after the NAKs that had one (R379); here with a frame in
flight, so that every NAK waits in `tx_fifo`. Of a link that is not fatal. -/
def Obligations.ControlActionsStageTheirFrames : Prop :=
  (∀ (s : State) (i : Instr) (b : List Byte),
    (i = .sendControl b) ∨ (i = .sendStrt ∧ b = buildStart s.cfg.ctlFlags) ∨
    (i = .sendStack ∧ b = buildStartAck s.cfg.ctlFlags) ∨ (i = .sendAck ∧ b = buildAck s.link.r s.cfg.ctlFlags) ∨
    (i = .sendNak ∧ b = buildNak s.link.nakReason s.link.r s.cfg.ctlFlags) ∨
    (i = .sendRep ∧ b = buildRep s.link.n s.cfg.ctlFlags) → s.latch.fatal = false →
    (∀ h rest, s.pool.free = h :: rest →
      exec i s = exec .txKick (stagedControl b h rest s) ∧
      Sends (exec i s) (stagedControl b h rest s)) ∧
    (s.pool.free = [] → s.pool.completion.length ≠ s.cfg.window + 4 →
      exec i s = .next (afterFatal .poolExhausted s))) ∧
  (∀ (s : State) (p : Packet), s.latch.fatal = false → s.tx.inflight ≠ none →
    let n := (p.num - s.link.r).toNat
    (n ≤ s.pool.free.length →
      exec (.nakMissing p) s = .next (stagedControls (gapNaks s.cfg s.link.r n) s)) ∧
    (s.pool.free.length < n → s.pool.completion.length ≠ s.cfg.window + 4 →
      exec (.nakMissing p) s =
        .next (afterFatal .poolExhausted (stagedControls (gapNaks s.cfg s.link.r s.pool.free.length) s))))

/-! ### The dispatch table (47_dispatch_rules.md) -/

/-- R260, R262, R264, R267, R269, R270, R273, R274, R282 and R283: what each of these entries leaves when it fires; no entry
fires while the link is fatal (R215). -/
def Obligations.EntriesThatSendNothing : Prop :=
  ∀ s : State, s.latch.fatal = false →
    let stopped : Timer := { s.timer with running := false }
    let started : Timer := { running := true, remaining := s.cfg.pktTimeout }
    let room := s.pool.completion.length ≠ s.cfg.window + 4
    let roomBack := s.pool.ackWait.length + s.pool.transmit.length ≤ s.cfg.window
    let gets := fun c => s.disp.curEvent = some .packetReceived ∧ ∃ p, s.tx.rxPkt = some (.packet p) ∧ p.cls = c
    (s.disp.curEvent = some .userHalt →
      exec .dr00 s = .next { s with timer := stopped, link.state := .halt, env.reply := .flag true }) ∧
    (s.disp.curEvent = some .userMaintenanceMode →
      exec .dr02 s = .next { s with timer := stopped, link.state := .maintenance, env.reply := .flag true }) ∧
    (gets .maint → room →
      exec .dr04 s = .next { s with timer := stopped, link.state := .maintenance,
                                    pool := noted .maintenanceReceived s.pool, env.reply := .flag true }) ∧
    (s.link.state = .iStart → gets .stack →
      exec .dr07 s = .next { s with timer := stopped,
                                    link := { s.link with state := .run, sack := true, snak := false },
                                    env.reply := .flag true }) ∧
    (s.link.state = .iStart → s.timer.running = false →
      exec .dr09 s = .next { s with timer := started, env.reply := .flag true }) ∧
    (s.link.state = .aStart → gets .ack ∨ gets .data ∨ gets .stack →
      exec .dr10 s = .next { s with timer := stopped, link.state := .run, env.reply := .flag true }) ∧
    (s.link.state = .run → s.link.lineConnected = false → room → roomBack →
      exec .dr13 s = .next { s with timer := stopped, link.state := .halt, latch.startRcvd := false,
                                    pool := requeued (noted .disconnect s.pool), env.reply := .flag true }) ∧
    (s.link.state = .run → gets .strt → room → roomBack →
      exec .dr14 s = .next { s with timer := stopped, link.state := .halt, latch.startRcvd := true,
                                    pool := requeued (noted .startReceived s.pool), env.reply := .flag true }) ∧
    (s.link.state = .run → s.disp.curEvent = some .timerExpired →
      exec .dr22 s = .next { s with link.srep := true, env.reply := .flag true }) ∧
    (s.link.state = .run → s.disp.curEvent = some .transmitDone → s.tx.doneKind = .data →
      exec .dr23 s = .next { s with
        link.x := s.tx.doneNum
        timer := if seqLT s.cfg.window s.link.a s.tx.doneNum = true then started else stopped
        env.reply := .flag true })

/-- R263, R275 and R277 to R281: what each of these entries does with the packet of the scan when it fires, on a link
that is not fatal (R215). -/
def Obligations.EntriesThatReadThePacket : Prop :=
  ∀ s : State, s.latch.fatal = false → s.disp.curEvent = some .packetReceived →
    let w := s.cfg.window
    (∀ p, s.tx.rxPkt = some (.packet p) →
      (p.cls = .maint → s.link.state = .maintenance →
        ∃ t, exec (.deliverMaintToHost p) { s with env.reply := .flag true } = .next t ∧ exec .dr03 s = .next t) ∧
      (p.cls = .data → s.link.state = .run → p.num = s.link.r + 1 →
        ∃ t, exec (.giveBufferToUser p) { s with env.reply := .flag true } = .next t ∧ exec .dr15 s = .next t) ∧
      (p.cls = .ack ∨ p.cls = .data → s.link.state = .run → seqLT w s.link.a p.resp = true →
        seqLE w p.resp s.link.n = true → s.pool.completion.length + s.pool.ackWait.length ≤ w + 4 →
        exec .dr18 s = .next { s with
          pool := acknowledged w p.resp s.pool
          link := { s.link with a := p.resp, t := if seqLE w s.link.t p.resp = true then p.resp + 1 else s.link.t }
          timer := { s.timer with running := s.timer.running && !seqGE w p.resp s.link.x }
          env.reply := .flag true }) ∧
      (p.cls = .nak → s.link.state = .run → seqLE w s.link.a p.resp = true →
        seqLE w p.resp s.link.n = true → s.pool.completion.length + s.pool.ackWait.length ≤ w + 4 →
        exec .dr19 s = .next { s with
          pool := acknowledged w p.resp s.pool
          link := { s.link with a := p.resp, t := p.resp + 1 }
          timer := { s.timer with running := false }
          env.reply := .flag true }) ∧
      (p.cls = .rep → s.link.state = .run → p.num = s.link.r →
        exec .dr20 s = .next { s with link := { s.link with sack := true, snak := false }, env.reply := .flag true }) ∧
      (p.cls = .rep → s.link.state = .run → p.num ≠ s.link.r →
        exec .dr21 s = .next { s with
          link := { s.link with snak := true, sack := false, nakReason := 3 }, env.reply := .flag true })) ∧
    ∀ r, s.tx.rxPkt = some (.error r) → s.link.state = .run →
      exec .dr17 s = .next { s with
        link := { s.link with snak := true, sack := false, nakReason := r }, env.reply := .flag true }

/-- R261, R266, R268, R271, R272, R276, R284, R285 and R288: the control frame each of these entries stages when it fires on
a link that is not fatal, and what else it writes; where the pool is empty (for DR01 once the staged frames have given
theirs back, for DR16 once it has run out in the gap), Fatal, with the new state not applied (R346). -/
def Obligations.EntriesThatSendControlFrames : Prop :=
  ∀ s : State, s.latch.fatal = false →
    let f := s.cfg.ctlFlags
    let started : Timer := { running := true, remaining := s.cfg.pktTimeout }
    let yes : State := { s with env.reply := .flag true }
    let idle := s.tx.inflight = none ∧ s.tx.fifo = []
    let gets := fun c => s.disp.curEvent = some .packetReceived ∧ ∃ p, s.tx.rxPkt = some (.packet p) ∧ p.cls = c
    let c06 := s.link.state = .iStart ∧ s.disp.curEvent = some .timerExpired
    let c08 := s.link.state = .iStart ∧ gets .strt
    let c11 := s.link.state = .aStart ∧ gets .strt
    let c12 := s.link.state = .aStart ∧ s.disp.curEvent = some .timerExpired
    let c24 := s.link.state = .run ∧ idle ∧ s.link.snak = true
    let c25 := s.link.state = .run ∧ idle ∧ s.link.snak = false ∧ s.link.srep = true
    let c28 := s.link.state = .run ∧ idle ∧ s.link.sack = true ∧ s.link.t = s.link.n + 1
    (∀ h rest, s.pool.free = h :: rest →
      (c06 → Sends (exec .dr06 s) (stagedControl (buildStart f) h rest yes)) ∧
      (c08 → Sends (exec .dr08 s)
        (stagedControl (buildStartAck f) h rest { yes with link.state := .aStart, timer := started })) ∧
      (c11 → Sends (exec .dr11 s) (stagedControl (buildStartAck f) h rest { yes with timer := started })) ∧
      (c12 → Sends (exec .dr12 s) (stagedControl (buildStartAck f) h rest { yes with timer := started })) ∧
      (c24 → Sends (exec .dr24 s)
        (stagedControl (buildNak s.link.nakReason s.link.r f) h rest { yes with link.snak := false })) ∧
      (c25 → Sends (exec .dr25 s)
        (stagedControl (buildRep s.link.n f) h rest { yes with link.srep := false, timer := started })) ∧
      (c28 → Sends (exec .dr28 s) (stagedControl (buildAck s.link.r f) h rest { yes with link.sack := false }))) ∧
    (∀ i, (c06 ∧ i = .dr06) ∨ (c08 ∧ i = .dr08) ∨ (c11 ∧ i = .dr11) ∨ (c12 ∧ i = .dr12) ∨ (c24 ∧ i = .dr24) ∨
        (c25 ∧ i = .dr25) ∨ (c28 ∧ i = .dr28) →
      s.pool.free = [] → s.pool.completion.length ≠ s.cfg.window + 4 →
      exec i s = .next (afterFatal .poolExhausted yes)) ∧
    (∀ h rest, s.link.state = .halt → s.disp.curEvent = some .userStartup → s.link.lineConnected = true →
      s.pool.ackWait.length + s.pool.transmit.length ≤ s.cfg.window →
      s.pool.free.length + (s.tx.fifo.filterMap (·.desc)).length ≤ s.cfg.window →
      s.pool.free ++ s.tx.fifo.filterMap (·.desc) = h :: rest →
      Sends (exec .dr01 s) (stagedControl (buildStart f) h rest
        { variablesReset yes with
          link := { (variablesReset yes).link with state := .iStart }, timer.running := false })) ∧
    (s.link.state = .halt → s.disp.curEvent = some .userStartup → s.link.lineConnected = true →
      s.pool.ackWait.length + s.pool.transmit.length ≤ s.cfg.window →
      s.pool.free ++ s.tx.fifo.filterMap (·.desc) = [] → s.pool.completion.length ≠ s.cfg.window + 4 →
      exec .dr01 s = .next (afterFatal .poolExhausted (variablesReset yes))) ∧
    ∀ p, s.link.state = .run → s.disp.curEvent = some .packetReceived → s.tx.rxPkt = some (.packet p) → p.cls = .data →
      seqGT s.cfg.window p.num (s.link.r + 1) = true → s.tx.inflight ≠ none →
      let n := (p.num - s.link.r).toNat
      (n ≤ s.pool.free.length → exec .dr16 s = .next (stagedControls (gapNaks s.cfg s.link.r n) yes)) ∧
      (s.pool.free.length < n → s.pool.completion.length ≠ s.cfg.window + 4 →
        exec .dr16 s =
          .next (afterFatal .poolExhausted (stagedControls (gapNaks s.cfg s.link.r s.pool.free.length) yes)))

/-- R265, R286 and R287: the frame each of these entries stages when it fires on a link that is not fatal, and what else it
writes. -/
def Obligations.EntriesThatSendMessages : Prop :=
  ∀ s : State, s.latch.fatal = false → s.tx.inflight = none → s.tx.fifo = [] →
    let yes : State := { s with env.reply := .flag true }
    (s.link.state = .maintenance → ∀ h rest, s.pool.transmit = h :: rest →
      s.pool.completion.length ≠ s.cfg.window + 4 → Sends (exec .dr05 s) (stagedMaint h rest yes)) ∧
    (s.link.state = .run → s.link.snak = false → s.link.srep = false →
      (seqLT s.cfg.window s.link.t (s.link.n + 1) = true →
        (∀ h, findSeq s s.link.t = some h → Sends (exec .dr26 s) { restagedData h yes with
            link := { (restagedData h yes).link with sack := false } }) ∧
        (findSeq s s.link.t = none → s.pool.completion.length ≠ s.cfg.window + 4 →
          exec .dr26 s = .next (afterFatal .missingRetransmitBuffer yes))) ∧
      (s.link.t = s.link.n + 1 → s.pool.ackWait.length < s.cfg.window → ∀ h rest, s.pool.transmit = h :: rest →
        Sends (exec .dr27 s) { stagedData h rest yes with
          link := { (stagedData h rest yes).link with sack := false } }))

/-- R217 and R260 to R288: an entry whose state or one of whose conditions fails changes nothing, for each of the 29, the
conditions written out over the fields of the state; and on a fatal link none fires (R215, R346). R219 and R289: the
default changes nothing. That an entry given on its own answers whether it fired, and the default whether none matched, is
the model's choice (log 13). -/
def Obligations.EntriesThatDoNotMatchChangeNothing : Prop :=
  ∀ s : State,
    (∀ x ∈ entryConditions s, s.latch.fatal = true ∨ ¬ x.2 → exec x.1 s = .next { s with env.reply := .flag false }) ∧
    (s.latch.fatal = true ∨ (∀ x ∈ entryConditions s, ¬ x.2) →
      exec .drDefault s = .next { s with env.reply := .flag true }) ∧
    (s.latch.fatal = false → (∃ x ∈ entryConditions s, x.2) →
      exec .drDefault s = .next { s with env.reply := .flag false })

/-! ### Wire frames as instructions -/

/-- What each frame kind with right CRCs does in a state that takes it, R267, R270, R274, R278 to R281, with the packet in `rx_pkt` and
the dispatcher at rest again; here with a frame in flight, so that no level entry of Run follows. -/
def Obligations.ControlFramesTakeEffect : Prop :=
  ∀ (h : ControlHeader) (s : State), Ready s → s.cfg.corruptPermille = 0 → s.link.lineConnected = true →
    s.tx.inflight ≠ none → s.pool.completion.length + s.pool.ackWait.length < s.cfg.window + 4 →
    s.pool.ackWait.length + s.pool.transmit.length ≤ s.cfg.window →
    let w := s.cfg.window
    let got := fun cls => { s with tx.rxPkt := some (.packet (controlPacket cls h)) }
    let stopped : Timer := { s.timer with running := false }
    (controlSealed 6 h → s.link.state = .run →
      exec (.strt h) s = .next { got .strt with
        link := { s.link with state := .halt }, timer := stopped, latch := { s.latch with startRcvd := true }
        pool := requeued (noted .startReceived s.pool) }) ∧
    (controlSealed 7 h → s.link.state = .iStart →
      exec (.stack h) s = .next { got .stack with
        link := { s.link with state := .run, sack := true, snak := false }, timer := stopped }) ∧
    (controlSealed 7 h → s.link.state = .aStart →
      exec (.stack h) s = .next { got .stack with link := { s.link with state := .run }, timer := stopped }) ∧
    (controlSealed 1 h → s.link.state = .aStart →
      exec (.ack h) s = .next { got .ack with link := { s.link with state := .run }, timer := stopped }) ∧
    (controlSealed 1 h → s.link.state = .run → seqLT w s.link.a h.resp = true → seqLE w h.resp s.link.n = true →
      exec (.ack h) s = .next { got .ack with
        pool := acknowledged w h.resp s.pool
        link := { s.link with a := h.resp, t := if seqLE w s.link.t h.resp = true then h.resp + 1 else s.link.t }
        timer := { s.timer with running := s.timer.running && !seqGE w h.resp s.link.x } }) ∧
    (controlSealed 2 h → s.link.state = .run → seqLE w s.link.a h.resp = true → seqLE w h.resp s.link.n = true →
      exec (.nak h) s = .next { got .nak with
        pool := acknowledged w h.resp s.pool
        link := { s.link with a := h.resp, t := h.resp + 1 }, timer := stopped }) ∧
    (controlSealed 3 h → s.link.state = .run → h.num = s.link.r →
      exec (.rep h) s = .next { got .rep with link := { s.link with sack := true, snak := false } }) ∧
    (controlSealed 3 h → s.link.state = .run → h.num ≠ s.link.r →
      exec (.rep h) s = .next { got .rep with
        link := { s.link with snak := true, sack := false, nakReason := 3 } })

/-- The startup handshake (R268, with R271): a STRT in IStart or AStart answers with STACK, restarts the timer and leaves the
link in AStart. -/
def Obligations.StrtIsAnsweredWithStack : Prop :=
  ∀ (hd : ControlHeader) (s : State) (h : Handle) (rest : List Handle), Ready s → s.cfg.corruptPermille = 0 →
    controlSealed 6 hd → s.link.state = .iStart ∨ s.link.state = .aStart → s.pool.free = h :: rest →
    let staged := stagedControl (buildStartAck s.cfg.ctlFlags) h rest { s with
      tx.rxPkt := some (.packet (controlPacket .strt hd))
      link.state := .aStart
      timer := { running := true, remaining := s.cfg.pktTimeout } }
    (s.tx.inflight ≠ none → exec (.strt hd) s = .next staged) ∧
    ∀ as, s.tx.inflight = none → s.tx.fifo = [] → s.env.answers = .acceptedLater :: as →
      exec (.strt hd) s = .next { staged with
        tx.fifo := [], tx.inflight := some (controlItem (buildStartAck s.cfg.ctlFlags) h)
        env.answers := as, env.wire := s.env.wire ++ [buildStartAck s.cfg.ctlFlags] }

/-- What a data frame (R275 to R278) and a maintenance frame (R263, R264) with right CRCs do in a state that takes them, and
what a data frame with a wrong CRC does in Run (R277); here with a frame in flight, so that no level entry follows. -/
def Obligations.MessageFramesTakeEffect : Prop :=
  ∀ (hd : DataHeader) (payload : List Byte) (dcrc : Word16) (s : State), Ready s → s.cfg.corruptPermille = 0 →
    s.link.lineConnected = true → s.tx.inflight ≠ none →
    s.pool.completion.length + s.pool.ackWait.length < s.cfg.window + 4 → payload.length = hd.count.toNat →
    let w := s.cfg.window
    let got := fun rx => { s with tx.rxPkt := some rx }
    let pd := dataPacket .data hd payload
    let pm := dataPacket .maint hd payload
    (dataSealed 0x81 hd → dcrc = crc16 0 payload → s.link.state = .run →
      (hd.num = s.link.r + 1 → s.pool.receive = [] →
        exec (.data hd payload dcrc) s = .next { got (.packet pd) with
          link := { s.link with snak := true, sack := false, nakReason := 8 } }) ∧
      (hd.num = s.link.r + 1 → ∀ h rest, s.pool.receive = h :: rest →
        ((descOf s h).length.toNat < hd.count.toNat →
          exec (.data hd payload dcrc) s = .next { got (.packet pd) with
            link := { s.link with snak := true, sack := false, nakReason := 16 } }) ∧
        (hd.count.toNat ≤ (descOf s h).length.toNat →
          exec (.data hd payload dcrc) s = .next { delivered h rest pd .rxBufferComplete (got (.packet pd)) with
            link := { s.link with r := s.link.r + 1, sack := true, snak := false } })) ∧
      (seqGT w hd.num (s.link.r + 1) = true → (hd.num - s.link.r).toNat ≤ s.pool.free.length →
        exec (.data hd payload dcrc) s =
          .next (stagedControls (gapNaks s.cfg s.link.r (hd.num - s.link.r).toNat) (got (.packet pd)))) ∧
      (seqLT w hd.num (s.link.r + 1) = true → seqLT w s.link.a hd.resp = true → seqLE w hd.resp s.link.n = true →
        exec (.data hd payload dcrc) s = .next { got (.packet pd) with
          pool := acknowledged w hd.resp s.pool
          link := { s.link with a := hd.resp, t := if seqLE w s.link.t hd.resp = true then hd.resp + 1 else s.link.t }
          timer := { s.timer with running := s.timer.running && !seqGE w hd.resp s.link.x } })) ∧
    (¬ dataSealed 0x81 hd → s.link.state = .run →
      exec (.data hd payload dcrc) s = .next { got (.error 1) with
        link := { s.link with snak := true, sack := false, nakReason := 1 } }) ∧
    (dataSealed 0x81 hd → dcrc ≠ crc16 0 payload → s.link.state = .run →
      exec (.data hd payload dcrc) s = .next { got (.error 2) with
        link := { s.link with snak := true, sack := false, nakReason := 2 } }) ∧
    (dataSealed 0x90 hd → dcrc = crc16 0 payload →
      (s.link.state ≠ .maintenance → exec (.maint hd payload dcrc) s = .next { got (.packet pm) with
        link := { s.link with state := .maintenance }, timer := { s.timer with running := false }
        pool := noted .maintenanceReceived s.pool }) ∧
      (s.link.state = .maintenance →
        (s.pool.receive = [] → exec (.maint hd payload dcrc) s = .next (got (.packet pm))) ∧
        ∀ h rest, s.pool.receive = h :: rest →
          ((descOf s h).length.toNat < hd.count.toNat →
            exec (.maint hd payload dcrc) s = .next (got (.packet pm))) ∧
          (hd.count.toNat ≤ (descOf s h).length.toNat →
            exec (.maint hd payload dcrc) s =
              .next (delivered h rest pm .maintBufferComplete (got (.packet pm))))))

/-! ### Steps, memory and invariants -/

/-- A step runs the decoded instruction: bytes that are exactly one frame are run as that frame, other bytes are received, a
well-formed call of an operation that the outside has is made, a call of any other is none (R210, R353), a store of the host
writes its bytes to host memory and changes nothing else (R66; log 24), and with nothing waiting the engine is idle (R17,
R354; logs 6, 23, 25, 34). -/
def Obligations.StepRunsTheDecodedInstruction : Prop :=
  ∀ (s : State) (rest : List Stimulus),
    (∀ bytes i, s.env.input = .frame bytes :: rest → decode bytes = .instr i [] →
      step s = exec i { s with env.input := rest }) ∧
    (∀ bytes, s.env.input = .frame bytes :: rest → (∀ i, decode bytes ≠ .instr i []) →
      step s = exec (.onReceive bytes) { s with env.input := rest }) ∧
    (∀ i, s.env.input = .call i :: rest → external i = true → i.wellFormed = true →
      step s = exec i { s with env.input := rest }) ∧
    (∀ i, s.env.input = .call i :: rest → external i = true → i.wellFormed = false → step s = .refused .illFormed) ∧
    (∀ i, s.env.input = .call i :: rest → external i = false → step s = .refused .notOffered) ∧
    (∀ address bytes, s.env.input = .hostStore address bytes :: rest →
      step s = .next { s with env.input := rest, env.mem := memWriteBytes s.env.mem address bytes }) ∧
    (s.env.input = [] → step s = .next s)

/-- Host memory in its canonical form: a write of bytes is read back where it wrote and nowhere else, and equal contents are
equal data (R13, R68; log 5 for the canonical form). -/
def Obligations.HostMemoryReadsWhatWasWritten : Prop :=
  (∀ (m : Memory) (a x : Nat) (bs : List Byte), m.wf = true → memRead (memWriteBytes m a bs) x =
    if a ≤ x ∧ x < a + bs.length then bs.getD (x - a) 0 else memRead m x) ∧
  (∀ (m : Memory) (a : Nat) (bs : List Byte), m.wf = true → Memory.wf (memWriteBytes m a bs) = true) ∧
  (∀ (m : Memory) (a n : Nat), memReadBytes m a n = (List.range n).map fun k => memRead m (a + k)) ∧
  ∀ m m' : Memory, m.wf = true → m'.wf = true → (∀ x, memRead m x = memRead m' x) → m = m'

/-- The two invariants hold after reset, for every configuration in range (R57). -/
def Obligations.InvariantsHoldAtReset : Prop :=
  (EngineInv State.reset ∧ LinkInv State.reset) ∧
  ∀ (c : Config) (env : Env), c.InRange → Memory.wf env.mem = true →
    EngineInv (State.resetWith c env) ∧ LinkInv (State.resetWith c env)

/-- Every step, whatever it runs, keeps: at most one of SACK and SNAK (R31), the timer in its range (R34), the dispatcher at
rest between steps (R216), host memory canonical, and the configuration as it was (R55). -/
def Obligations.EveryStepKeepsTheEngineInvariant : Prop :=
  ∀ s t : State, EngineInv s → step s = .next t → EngineInv t ∧ t.cfg = s.cfg

/-- Every step, the outside having the operations of 48_interfaces.md and no other (R353), keeps: each handle owned exactly once and by an owner of its kind (R182, R47 to R49),
event records coalesced (R181), the link quiescent (R216), and a fatal link halted (R346). -/
def Obligations.EveryOutsideStepKeepsTheLinkInvariant : Prop :=
  ∀ s t : State, LinkInv s → step s = .next t → LinkInv t

/-- R183: where each handle is owned once, every queue is within its capacity, and no event code is queued twice. -/
def Obligations.OwnedQueuesFitTheirCapacities : Prop :=
  ∀ s : State, Owned s →
    s.pool.free.length ≤ s.cfg.window ∧ s.pool.receive.length ≤ s.cfg.window ∧ s.pool.transmit.length ≤ s.cfg.window ∧
    s.pool.ackWait.length ≤ s.cfg.window ∧ s.pool.completion.length ≤ s.cfg.window + 4 ∧
    s.pool.ackWait.length + s.pool.transmit.length ≤ s.cfg.window ∧
    ((∃ h, h < s.cfg.window ∧ some h ∉ s.pool.completion.map (·.buffer)) →
      s.pool.completion.length < s.cfg.window + 4)

/-- R378 with R37 and R215: frames that the transport delivers inside `send` are received with the sent item in flight. While a
dispatch runs they merge: one event is pending for all of them and `rx_pkt` holds the last, as it does when `on_receive`
itself comes then. Outside a dispatch they are received one after the other. Where the transport then reports completion,
`transmit_complete` follows; outside a dispatch this is said of states whose handles are owned once, under a configuration
in range, where the bound of the model's loops is never met (log 16). That the frames come before the completion is the
model's choice (log 11). -/
def Obligations.FramesDeliveredInsideSendMerge : Prop :=
  (∀ (s : State) (b : List Byte) (rx : RxPkt), s.latch.fatal = false → s.cfg.corruptPermille = 0 →
    s.disp.scanning = true → received b = some rx →
    exec (.onReceive b) s =
      .next { s with tx.rxPkt := some rx, disp.pending.packetReceived := true, disp.recurseScan := true }) ∧
  ∀ (s s1 : State) (x : TxItem) (xs : List TxItem) (frames : List (List Byte)) (completes : Bool),
    s.latch.fatal = false → s.tx.inflight = none → s.tx.fifo = x :: xs →
    offerFrame x.bytes s = (.acceptedReceiving frames completes, s1) →
    let sent : State := { s1 with tx.fifo := xs, tx.inflight := some x }
    (s.disp.scanning = true → s.cfg.corruptPermille = 0 →
      (completes = false → exec .txKick s = .next (heardScanning frames sent)) ∧
      (completes = true → exec .txKick s = exec .transmitComplete (heardScanning frames sent))) ∧
    (s.disp.scanning = false →
      (completes = false → exec .txKick s = receptions frames sent) ∧
      (completes = true → Owned s → s.cfg.InRange → ∀ t, receptions frames sent = .next t →
        exec .txKick s = exec .transmitComplete t))
end

