-- ==== Sys2Proof/Laws/State.lean ====
section
/-! SUPPORT. What each named update of the state leaves in each part of it: one lemma for each part and update, so that no
later proof unfolds a record update. -/

namespace Sys2Proof.Machine

variable (s : State)

/-! ### answer -/

@[simp] theorem answer_cfg (r : Reply) : (answer r s).cfg = s.cfg := rfl
@[simp] theorem answer_link (r : Reply) : (answer r s).link = s.link := rfl
@[simp] theorem answer_timer (r : Reply) : (answer r s).timer = s.timer := rfl
@[simp] theorem answer_disp (r : Reply) : (answer r s).disp = s.disp := rfl
@[simp] theorem answer_tx (r : Reply) : (answer r s).tx = s.tx := rfl
@[simp] theorem answer_pool (r : Reply) : (answer r s).pool = s.pool := rfl
@[simp] theorem answer_latch (r : Reply) : (answer r s).latch = s.latch := rfl
@[simp] theorem answer_env (r : Reply) : (answer r s).env = { s.env with reply := r } := rfl

/-! ### setDesc -/

@[simp] theorem setDesc_cfg (h : Handle) (f : Descriptor → Descriptor) : (setDesc h f s).cfg = s.cfg := rfl
@[simp] theorem setDesc_link (h : Handle) (f : Descriptor → Descriptor) : (setDesc h f s).link = s.link := rfl
@[simp] theorem setDesc_timer (h : Handle) (f : Descriptor → Descriptor) : (setDesc h f s).timer = s.timer := rfl
@[simp] theorem setDesc_disp (h : Handle) (f : Descriptor → Descriptor) : (setDesc h f s).disp = s.disp := rfl
@[simp] theorem setDesc_tx (h : Handle) (f : Descriptor → Descriptor) : (setDesc h f s).tx = s.tx := rfl
@[simp] theorem setDesc_pool (h : Handle) (f : Descriptor → Descriptor) : (setDesc h f s).pool =
    { s.pool with desc := s.pool.desc.modify h f } := rfl
@[simp] theorem setDesc_latch (h : Handle) (f : Descriptor → Descriptor) : (setDesc h f s).latch = s.latch := rfl
@[simp] theorem setDesc_env (h : Handle) (f : Descriptor → Descriptor) : (setDesc h f s).env = s.env := rfl

/-! ### startTimer -/

@[simp] theorem startTimer_cfg : (startTimer s).cfg = s.cfg := rfl
@[simp] theorem startTimer_link : (startTimer s).link = s.link := rfl
@[simp] theorem startTimer_timer : (startTimer s).timer = { running := true, remaining := s.cfg.pktTimeout } := rfl
@[simp] theorem startTimer_disp : (startTimer s).disp = s.disp := rfl
@[simp] theorem startTimer_tx : (startTimer s).tx = s.tx := rfl
@[simp] theorem startTimer_pool : (startTimer s).pool = s.pool := rfl
@[simp] theorem startTimer_latch : (startTimer s).latch = s.latch := rfl
@[simp] theorem startTimer_env : (startTimer s).env = s.env := rfl

/-! ### stopTimer -/

@[simp] theorem stopTimer_cfg : (stopTimer s).cfg = s.cfg := rfl
@[simp] theorem stopTimer_link : (stopTimer s).link = s.link := rfl
@[simp] theorem stopTimer_timer : (stopTimer s).timer = { running := false, remaining := s.timer.remaining } := rfl
@[simp] theorem stopTimer_disp : (stopTimer s).disp = s.disp := rfl
@[simp] theorem stopTimer_tx : (stopTimer s).tx = s.tx := rfl
@[simp] theorem stopTimer_pool : (stopTimer s).pool = s.pool := rfl
@[simp] theorem stopTimer_latch : (stopTimer s).latch = s.latch := rfl
@[simp] theorem stopTimer_env : (stopTimer s).env = s.env := rfl

/-! ### enterDispatch -/

@[simp] theorem enterDispatch_cfg : (enterDispatch s).cfg = s.cfg := rfl
@[simp] theorem enterDispatch_link : (enterDispatch s).link = s.link := rfl
@[simp] theorem enterDispatch_timer : (enterDispatch s).timer = s.timer := rfl
@[simp] theorem enterDispatch_disp : (enterDispatch s).disp = { s.disp with scanning := true } := rfl
@[simp] theorem enterDispatch_tx : (enterDispatch s).tx = s.tx := rfl
@[simp] theorem enterDispatch_pool : (enterDispatch s).pool = s.pool := rfl
@[simp] theorem enterDispatch_latch : (enterDispatch s).latch = s.latch := rfl
@[simp] theorem enterDispatch_env : (enterDispatch s).env = s.env := rfl

/-! ### leaveDispatch -/

@[simp] theorem leaveDispatch_cfg : (leaveDispatch s).cfg = s.cfg := rfl
@[simp] theorem leaveDispatch_link : (leaveDispatch s).link = s.link := rfl
@[simp] theorem leaveDispatch_timer : (leaveDispatch s).timer = s.timer := rfl
@[simp] theorem leaveDispatch_disp : (leaveDispatch s).disp =
    { s.disp with scanning := false, recurseScan := false, curEvent := none, scanIndex := 0 } := rfl
@[simp] theorem leaveDispatch_tx : (leaveDispatch s).tx = s.tx := rfl
@[simp] theorem leaveDispatch_pool : (leaveDispatch s).pool = s.pool := rfl
@[simp] theorem leaveDispatch_latch : (leaveDispatch s).latch = s.latch := rfl
@[simp] theorem leaveDispatch_env : (leaveDispatch s).env = s.env := rfl

/-! ### postEvent -/

@[simp] theorem postEvent_cfg (e : EventKind) : (postEvent e s).cfg = s.cfg := rfl
@[simp] theorem postEvent_link (e : EventKind) : (postEvent e s).link = s.link := rfl
@[simp] theorem postEvent_timer (e : EventKind) : (postEvent e s).timer = s.timer := rfl
@[simp] theorem postEvent_disp (e : EventKind) : (postEvent e s).disp =
    { s.disp with pending := pendingSet s.disp.pending e true, recurseScan := true } := rfl
@[simp] theorem postEvent_tx (e : EventKind) : (postEvent e s).tx = s.tx := rfl
@[simp] theorem postEvent_pool (e : EventKind) : (postEvent e s).pool = s.pool := rfl
@[simp] theorem postEvent_latch (e : EventKind) : (postEvent e s).latch = s.latch := rfl
@[simp] theorem postEvent_env (e : EventKind) : (postEvent e s).env = s.env := rfl

/-! ### takePending -/

@[simp] theorem takePending_cfg (e : EventKind) : (takePending e s).cfg = s.cfg := rfl
@[simp] theorem takePending_link (e : EventKind) : (takePending e s).link = s.link := rfl
@[simp] theorem takePending_timer (e : EventKind) : (takePending e s).timer = s.timer := rfl
@[simp] theorem takePending_disp (e : EventKind) : (takePending e s).disp =
    { s.disp with pending := pendingSet s.disp.pending e false, recurseScan := (pendingFirst (pendingSet s.disp.pending e false)).isSome } := rfl
@[simp] theorem takePending_tx (e : EventKind) : (takePending e s).tx = s.tx := rfl
@[simp] theorem takePending_pool (e : EventKind) : (takePending e s).pool = s.pool := rfl
@[simp] theorem takePending_latch (e : EventKind) : (takePending e s).latch = s.latch := rfl
@[simp] theorem takePending_env (e : EventKind) : (takePending e s).env = s.env := rfl

/-! ### takeFlight -/

@[simp] theorem takeFlight_cfg (i : TxItem) (l : List TxItem) : (takeFlight i l s).cfg = s.cfg := rfl
@[simp] theorem takeFlight_link (i : TxItem) (l : List TxItem) : (takeFlight i l s).link = s.link := rfl
@[simp] theorem takeFlight_timer (i : TxItem) (l : List TxItem) : (takeFlight i l s).timer = s.timer := rfl
@[simp] theorem takeFlight_disp (i : TxItem) (l : List TxItem) : (takeFlight i l s).disp = s.disp := rfl
@[simp] theorem takeFlight_tx (i : TxItem) (l : List TxItem) : (takeFlight i l s).tx =
    { s.tx with fifo := l, inflight := some i } := rfl
@[simp] theorem takeFlight_pool (i : TxItem) (l : List TxItem) : (takeFlight i l s).pool = s.pool := rfl
@[simp] theorem takeFlight_latch (i : TxItem) (l : List TxItem) : (takeFlight i l s).latch = s.latch := rfl
@[simp] theorem takeFlight_env (i : TxItem) (l : List TxItem) : (takeFlight i l s).env = s.env := rfl

/-! ### setSACK -/

@[simp] theorem setSACK_cfg : (setSACK s).cfg = s.cfg := rfl
@[simp] theorem setSACK_link : (setSACK s).link = { s.link with sack := true, snak := false } := rfl
@[simp] theorem setSACK_timer : (setSACK s).timer = s.timer := rfl
@[simp] theorem setSACK_disp : (setSACK s).disp = s.disp := rfl
@[simp] theorem setSACK_tx : (setSACK s).tx = s.tx := rfl
@[simp] theorem setSACK_pool : (setSACK s).pool = s.pool := rfl
@[simp] theorem setSACK_latch : (setSACK s).latch = s.latch := rfl
@[simp] theorem setSACK_env : (setSACK s).env = s.env := rfl

/-! ### setSNAK -/

@[simp] theorem setSNAK_cfg (r : BitVec 6) : (setSNAK r s).cfg = s.cfg := rfl
@[simp] theorem setSNAK_link (r : BitVec 6) : (setSNAK r s).link =
    { s.link with snak := true, sack := false, nakReason := r } := rfl
@[simp] theorem setSNAK_timer (r : BitVec 6) : (setSNAK r s).timer = s.timer := rfl
@[simp] theorem setSNAK_disp (r : BitVec 6) : (setSNAK r s).disp = s.disp := rfl
@[simp] theorem setSNAK_tx (r : BitVec 6) : (setSNAK r s).tx = s.tx := rfl
@[simp] theorem setSNAK_pool (r : BitVec 6) : (setSNAK r s).pool = s.pool := rfl
@[simp] theorem setSNAK_latch (r : BitVec 6) : (setSNAK r s).latch = s.latch := rfl
@[simp] theorem setSNAK_env (r : BitVec 6) : (setSNAK r s).env = s.env := rfl

/-! ### clearSNAK -/

@[simp] theorem clearSNAK_cfg : (clearSNAK s).cfg = s.cfg := rfl
@[simp] theorem clearSNAK_link : (clearSNAK s).link = { s.link with snak := false } := rfl
@[simp] theorem clearSNAK_timer : (clearSNAK s).timer = s.timer := rfl
@[simp] theorem clearSNAK_disp : (clearSNAK s).disp = s.disp := rfl
@[simp] theorem clearSNAK_tx : (clearSNAK s).tx = s.tx := rfl
@[simp] theorem clearSNAK_pool : (clearSNAK s).pool = s.pool := rfl
@[simp] theorem clearSNAK_latch : (clearSNAK s).latch = s.latch := rfl
@[simp] theorem clearSNAK_env : (clearSNAK s).env = s.env := rfl

/-! ### setSREP -/

@[simp] theorem setSREP_cfg : (setSREP s).cfg = s.cfg := rfl
@[simp] theorem setSREP_link : (setSREP s).link = { s.link with srep := true } := rfl
@[simp] theorem setSREP_timer : (setSREP s).timer = s.timer := rfl
@[simp] theorem setSREP_disp : (setSREP s).disp = s.disp := rfl
@[simp] theorem setSREP_tx : (setSREP s).tx = s.tx := rfl
@[simp] theorem setSREP_pool : (setSREP s).pool = s.pool := rfl
@[simp] theorem setSREP_latch : (setSREP s).latch = s.latch := rfl
@[simp] theorem setSREP_env : (setSREP s).env = s.env := rfl

/-! ### clearSREP -/

@[simp] theorem clearSREP_cfg : (clearSREP s).cfg = s.cfg := rfl
@[simp] theorem clearSREP_link : (clearSREP s).link = { s.link with srep := false } := rfl
@[simp] theorem clearSREP_timer : (clearSREP s).timer = s.timer := rfl
@[simp] theorem clearSREP_disp : (clearSREP s).disp = s.disp := rfl
@[simp] theorem clearSREP_tx : (clearSREP s).tx = s.tx := rfl
@[simp] theorem clearSREP_pool : (clearSREP s).pool = s.pool := rfl
@[simp] theorem clearSREP_latch : (clearSREP s).latch = s.latch := rfl
@[simp] theorem clearSREP_env : (clearSREP s).env = s.env := rfl

/-! ### clearSACK -/

@[simp] theorem clearSACK_cfg : (clearSACK s).cfg = s.cfg := rfl
@[simp] theorem clearSACK_link : (clearSACK s).link = { s.link with sack := false } := rfl
@[simp] theorem clearSACK_timer : (clearSACK s).timer = s.timer := rfl
@[simp] theorem clearSACK_disp : (clearSACK s).disp = s.disp := rfl
@[simp] theorem clearSACK_tx : (clearSACK s).tx = s.tx := rfl
@[simp] theorem clearSACK_pool : (clearSACK s).pool = s.pool := rfl
@[simp] theorem clearSACK_latch : (clearSACK s).latch = s.latch := rfl
@[simp] theorem clearSACK_env : (clearSACK s).env = s.env := rfl

/-! ### clearStartReceived -/

@[simp] theorem clearStartReceived_cfg : (clearStartReceived s).cfg = s.cfg := rfl
@[simp] theorem clearStartReceived_link : (clearStartReceived s).link = s.link := rfl
@[simp] theorem clearStartReceived_timer : (clearStartReceived s).timer = s.timer := rfl
@[simp] theorem clearStartReceived_disp : (clearStartReceived s).disp = s.disp := rfl
@[simp] theorem clearStartReceived_tx : (clearStartReceived s).tx = s.tx := rfl
@[simp] theorem clearStartReceived_pool : (clearStartReceived s).pool = s.pool := rfl
@[simp] theorem clearStartReceived_latch : (clearStartReceived s).latch = { s.latch with startRcvd := false } := rfl
@[simp] theorem clearStartReceived_env : (clearStartReceived s).env = s.env := rfl

/-! ### setTToAplus1 -/

@[simp] theorem setTToAplus1_cfg : (setTToAplus1 s).cfg = s.cfg := rfl
@[simp] theorem setTToAplus1_link : (setTToAplus1 s).link = { s.link with t := inc s.link.a } := rfl
@[simp] theorem setTToAplus1_timer : (setTToAplus1 s).timer = s.timer := rfl
@[simp] theorem setTToAplus1_disp : (setTToAplus1 s).disp = s.disp := rfl
@[simp] theorem setTToAplus1_tx : (setTToAplus1 s).tx = s.tx := rfl
@[simp] theorem setTToAplus1_pool : (setTToAplus1 s).pool = s.pool := rfl
@[simp] theorem setTToAplus1_latch : (setTToAplus1 s).latch = s.latch := rfl
@[simp] theorem setTToAplus1_env : (setTToAplus1 s).env = s.env := rfl

/-! ### setXToSentNum -/

@[simp] theorem setXToSentNum_cfg : (setXToSentNum s).cfg = s.cfg := rfl
@[simp] theorem setXToSentNum_link : (setXToSentNum s).link = { s.link with x := s.tx.doneNum } := rfl
@[simp] theorem setXToSentNum_timer : (setXToSentNum s).timer = s.timer := rfl
@[simp] theorem setXToSentNum_disp : (setXToSentNum s).disp = s.disp := rfl
@[simp] theorem setXToSentNum_tx : (setXToSentNum s).tx = s.tx := rfl
@[simp] theorem setXToSentNum_pool : (setXToSentNum s).pool = s.pool := rfl
@[simp] theorem setXToSentNum_latch : (setXToSentNum s).latch = s.latch := rfl
@[simp] theorem setXToSentNum_env : (setXToSentNum s).env = s.env := rfl

/-! ### placeFrame -/

@[simp] theorem placeFrame_cfg (b : List Byte) : (placeFrame b s).cfg = s.cfg := rfl
@[simp] theorem placeFrame_link (b : List Byte) : (placeFrame b s).link = s.link := rfl
@[simp] theorem placeFrame_timer (b : List Byte) : (placeFrame b s).timer = s.timer := rfl
@[simp] theorem placeFrame_disp (b : List Byte) : (placeFrame b s).disp = s.disp := rfl
@[simp] theorem placeFrame_tx (b : List Byte) : (placeFrame b s).tx = s.tx := rfl
@[simp] theorem placeFrame_pool (b : List Byte) : (placeFrame b s).pool = s.pool := rfl
@[simp] theorem placeFrame_latch (b : List Byte) : (placeFrame b s).latch = s.latch := rfl
@[simp] theorem placeFrame_env (b : List Byte) : (placeFrame b s).env =
    { s.env with input := .frame b :: s.env.input } := rfl

end Sys2Proof.Machine
end

