-- ==== Sys2Proof/Laws/Ops.lean ====
section
/-! SUPPORT. What each shared operation does, said once: the queue primitives and the pool (44_queues.md), the loops of
`RequeueAckWait`, `CompleteAcked` and the kill operations, notification and the fatal condition. -/

namespace Sys2Proof.Machine

/-- The bound of the loops, at its least (R220). -/
theorem budget_large (s : State) : 12000 ≤ budget s := by
  have h : 40 * 300 * 1 ≤ 40 * (s.pool.transmit.length + s.pool.ackWait.length + 300) * (s.env.answers.length + 1) :=
    Nat.mul_le_mul (Nat.mul_le_mul (le_refl _) (Nat.le_add_left _ _)) (Nat.le_add_left _ _)
  exact Nat.le_add_right_of_le h

/-! ### Touching descriptors -/

theorem touch_nil (f : Descriptor → Descriptor) (d : List Descriptor) : touch [] f d = d := by
  apply List.ext_getElem <;> simp [touch]

theorem touch_length (hs : List Handle) (f : Descriptor → Descriptor) (d : List Descriptor) :
    (touch hs f d).length = d.length := by simp [touch]

theorem touch_congr {hs ks : List Handle} (h : ∀ x, x ∈ hs ↔ x ∈ ks) (f : Descriptor → Descriptor)
    (d : List Descriptor) : touch hs f d = touch ks f d := by
  simp only [touch, h]

theorem touch_singleton (h : Handle) (f : Descriptor → Descriptor) (d : List Descriptor) :
    touch [h] f d = d.modify h f := by
  apply List.ext_getElem
  · simp [touch]
  · intro i h1 h2
    simp [touch, List.getElem_modify, eq_comm]

/-- One handle more: the first is touched first. -/
theorem touch_cons (h : Handle) (l : List Handle) {f : Descriptor → Descriptor} (hf : ∀ x, f (f x) = f x)
    (d : List Descriptor) : touch (h :: l) f d = touch l f (d.modify h f) := by
  apply List.ext_getElem
  · simp [touch]
  · intro i h1 h2
    simp only [touch, List.getElem_mapIdx, List.getElem_modify, List.mem_cons]
    by_cases hl : i ∈ l
    · rcases eq_or_ne h i with hi | hi
      · simp [hl, hi, hf]
      · simp [hl, hi]
    · rcases eq_or_ne h i with hi | hi
      · simp [hl, hi]
      · simp [hl, hi, Ne.symm hi]

theorem touch_getD (hs : List Handle) (f : Descriptor → Descriptor) (d : List Descriptor) (h : Handle) :
    (touch hs f d).getD h resetDescriptor =
      if h < d.length ∧ h ∈ hs then f (d.getD h resetDescriptor) else d.getD h resetDescriptor := by
  simp only [touch, List.getD_eq_getElem?_getD, List.getElem?_mapIdx]
  by_cases hh : h < d.length
  · simp only [List.getElem?_eq_getElem hh, Option.map_some, Option.getD_some]
    by_cases hm : h ∈ hs <;> simp [hh, hm]
  · simp [hh]

/-! ### Queue primitives and the pool -/

theorem capacity_handles (c : Config) (q : HandleQueue) : capacity c (handleQueueName q) = c.window := by
  cases q <;> rfl

theorem enqueue_room {q : HandleQueue} {s : State} (h : Handle) (hl : (handles s.pool q).length ≠ s.cfg.window) :
    enqueue (.handleIn q h) s = (true, { s with pool := setHandles s.pool q (handles s.pool q ++ [h]) }) := by
  simp [enqueue, listEnqueue, capacity_handles, hl]

theorem enqueue_full {q : HandleQueue} {s : State} (h : Handle) (hl : (handles s.pool q).length = s.cfg.window) :
    enqueue (.handleIn q h) s = (false, s) := by
  simp only [enqueue, listEnqueue, capacity_handles, hl, if_true]
  cases q <;> rfl

theorem enqueue_record_room {s : State} (r : Completion) (hl : s.pool.completion.length ≠ s.cfg.window + 4) :
    enqueue (.recordIn r) s = (true, { s with pool.completion := s.pool.completion ++ [r] }) := by
  simp [enqueue, listEnqueue, capacity, hl]

theorem enqueue_record_full {s : State} (r : Completion) (hl : s.pool.completion.length = s.cfg.window + 4) :
    enqueue (.recordIn r) s = (false, s) := by
  simp [enqueue, listEnqueue, capacity, hl]

theorem pushFront_room {q : HandleQueue} {s : State} (h : Handle) (hl : (handles s.pool q).length ≠ s.cfg.window) :
    pushFront (.handleIn q h) s = (true, { s with pool := setHandles s.pool q (h :: handles s.pool q) }) := by
  simp [pushFront, listPushFront, capacity_handles, hl]

theorem release_room {s : State} (h : Handle) (hl : s.pool.free.length ≠ s.cfg.window) :
    release h s = { s with pool.free := s.pool.free ++ [h] } := by
  simp [release, enqueue_room (q := .free) (s := s) h hl, setHandles, handles]

theorem releaseItem_none {i : TxItem} (hi : i.desc = none) (s : State) : releaseItem i s = s := by
  simp [releaseItem, hi]

/-- The descriptor of an item goes to the tail of `free`; an item that owns none changes nothing (R312). -/
theorem releaseItem_room {i : TxItem} {s : State} (hl : i.desc ≠ none → s.pool.free.length ≠ s.cfg.window) :
    releaseItem i s = { s with pool.free := s.pool.free ++ i.desc.toList } := by
  cases hi : i.desc with
  | none => simp [releaseItem, hi]
  | some h => simp [releaseItem, hi, release_room h (hl (by simp [hi]))]

theorem alloc_nil {s : State} (k : BufferKind) (hf : s.pool.free = []) : alloc k s = none := by simp [alloc, hf]

theorem alloc_cons {s : State} {h : Handle} {rest : List Handle} (k : BufferKind) (hf : s.pool.free = h :: rest) :
    alloc k s = some (h, { s with pool := allocated k h rest s.pool }) := by
  simp [alloc, hf, setDesc, allocated]

/-! ### Notification and the fatal condition -/

theorem notify_room {s : State} (code : EventCode) (hl : s.pool.completion.length ≠ s.cfg.window + 4) :
    notify code s = { s with pool := noted code s.pool } := by
  simp only [notify, noted]
  split
  · rfl
  · simp [enqueue_record_room _ hl]

/-- `raise Fatal` with room for its record (R346). -/
theorem raiseFatal_room {s : State} (c : FatalCause) (hl : s.pool.completion.length ≠ s.cfg.window + 4) :
    raiseFatal c s = afterFatal c s := by
  unfold raiseFatal afterFatal
  rw [notify_room]
  · rfl
  · exact hl

/-- Whatever room there is: `raise Fatal` halts the link, stops the timer and leaves the dispatcher at rest (R346). -/
theorem raiseFatal_halts (c : FatalCause) (s : State) :
    (raiseFatal c s).latch.fatal = true ∧ (raiseFatal c s).link = { s.link with state := .halt } ∧
      (raiseFatal c s).timer = { s.timer with running := false } ∧ AtRest (raiseFatal c s) ∧
      (raiseFatal c s).cfg = s.cfg ∧ (raiseFatal c s).env.mem = s.env.mem ∧ (raiseFatal c s).tx = s.tx := by
  simp only [raiseFatal, notify, enqueue, AtRest]
  split <;> exact ⟨rfl, rfl, rfl, rfl, rfl, rfl, rfl⟩

/-! ### RequeueAckWait -/

theorem requeueOne_room {s : State} (h : Handle) (hl : s.pool.transmit.length ≠ s.cfg.window) :
    requeueOne s h = { s with pool := { s.pool with
      transmit := h :: s.pool.transmit, desc := s.pool.desc.modify h unnumbered } } := by
  simp only [requeueOne]
  rw [pushFront_room (q := .transmit) h (by simpa [handles] using hl)]
  rfl

theorem requeueOne_foldl (l : List Handle) : ∀ s : State, l.length + s.pool.transmit.length ≤ s.cfg.window →
    l.foldl requeueOne s = { s with pool := { s.pool with
      transmit := l.reverse ++ s.pool.transmit, desc := touch l unnumbered s.pool.desc } } := by
  induction l with
  | nil => intro s _; simp [touch_nil]
  | cons h l ih =>
    intro s hl
    simp only [List.length_cons] at hl
    rw [List.foldl_cons, requeueOne_room h (by omega), ih]
    · simp [touch_cons h l (f := unnumbered) (fun _ => rfl)]
    · simp only [List.length_cons]; omega

/-- `RequeueAckWait` with room in `transmit` (R184). -/
theorem requeueAckWait_room {s : State} (hl : s.pool.ackWait.length + s.pool.transmit.length ≤ s.cfg.window) :
    requeueAckWait s = { s with pool := requeued s.pool } := by
  rw [requeueAckWait, requeueOne_foldl]
  · simp [requeued, touch_congr (hs := s.pool.ackWait.reverse) (ks := s.pool.ackWait) (by simp)]
  · simpa using hl

/-! ### Buffers handed to the host -/

theorem handedOver_nil (len : Descriptor → BitVec 14) (code : EventCode) (p : Pool) : handedOver [] len code p = p := by
  simp [handedOver, touch_nil]

/-- One buffer more: the first goes first, and its descriptor's new fields do not change any length. -/
theorem handedOver_cons (h : Handle) (l : List Handle) {len : Descriptor → BitVec 14} (code : EventCode) (p : Pool)
    (hlen : ∀ d a c, len { d with actual := a, eventCode := c } = len d) :
    handedOver (h :: l) len code p = handedOver l len code (handedOver [h] len code p) := by
  have hf : ∀ d, handedBack len code (handedBack len code d) = handedBack len code d := by
    intro d; simp [handedBack, hlen]
  have hget : ∀ k, len ((touch [h] (handedBack len code) p.desc).getD k resetDescriptor) =
      len (p.desc.getD k resetDescriptor) := by
    intro k
    rw [touch_getD]
    split
    · simp [handedBack, hlen]
    · rfl
  simp only [handedOver, touch_cons h l hf, ← touch_singleton, hget, List.map_cons, List.map_nil, List.append_assoc,
    List.cons_append, List.nil_append]

theorem handedOver_completion_length (l : List Handle) (len : Descriptor → BitVec 14) (code : EventCode) (p : Pool) :
    (handedOver l len code p).completion.length = p.completion.length + l.length := by simp [handedOver]

/-- `complete` with room in `completion` (R180). -/
theorem complete_room {s : State} (h : Handle) (x : BitVec 14) (code : EventCode)
    (hl : s.pool.completion.length ≠ s.cfg.window + 4) :
    complete h x code s = { s with pool := handedOver [h] (fun _ => x) code s.pool } := by
  simp only [complete]
  rw [enqueue_record_room]
  · simp only [setDesc, handedOver, touch_singleton]
    rfl
  · simpa using hl

/-- The same with the length a descriptor gives. -/
theorem complete_room_len {s : State} (h : Handle) (len : Descriptor → BitVec 14) (code : EventCode)
    (hl : s.pool.completion.length ≠ s.cfg.window + 4) :
    complete h (len (descOf s h)) code s = { s with pool := handedOver [h] len code s.pool } := by
  rw [complete_room _ _ _ hl]
  simp only [handedOver, touch_singleton, descOf, List.map_cons, List.map_nil]
  congr 2
  apply List.ext_getElem
  · simp
  · intro i h1 h2
    simp only [List.length_modify] at h1
    simp only [List.getElem_modify, handedBack]
    by_cases hi : h = i
    · subst hi
      simp only [if_true, List.getD_eq_getElem?_getD, List.getElem?_eq_getElem h1, Option.getD_some]
    · simp [hi]

/-- `killAll` with room in `completion` (R305, R306). -/
theorem killAll_room (code : EventCode) (l : List Handle) : ∀ s : State,
    s.pool.completion.length + l.length ≤ s.cfg.window + 4 →
    killAll code l s = { s with pool := handedOver l (fun _ => 0) code s.pool } := by
  induction l with
  | nil => intro s _; simp [killAll, handedOver_nil]
  | cons h l ih =>
    intro s hl
    simp only [List.length_cons] at hl
    have ih' := ih { s with pool := handedOver [h] (fun _ => 0) code s.pool }
      (by simp [handedOver_completion_length]; omega)
    simp only [killAll, List.foldl_cons] at ih' ⊢
    rw [complete_room h 0 code (by omega), ih', handedOver_cons h l code s.pool (fun _ _ _ => rfl)]

/-- Completing an acknowledged head first changes nothing of what is acknowledged (R241). -/
theorem acknowledged_cons {w : Nat} {resp : Byte} {p : Pool} {h : Handle} {rest : List Handle} (ha : p.ackWait = h :: rest)
    (hh : isAcked w p resp h = true) :
    acknowledged w resp p =
      acknowledged w resp (handedOver [h] (·.length) .txBufferComplete { p with ackWait := rest }) := by
  have hacked : isAcked w (handedOver [h] (·.length) .txBufferComplete { p with ackWait := rest }) resp =
      isAcked w p resp := by
    funext k
    simp only [isAcked, handedOver, touch_getD]
    split <;> rfl
  have hrest : (handedOver [h] (·.length) .txBufferComplete { p with ackWait := rest }).ackWait = rest := rfl
  simp only [acknowledged, hacked, hrest, ha, List.takeWhile_cons, List.dropWhile_cons, hh, if_true]
  exact handedOver_cons h _ _ _ (fun _ _ _ => rfl)

theorem acknowledged_stop {w : Nat} {resp : Byte} {p : Pool} (hh : ∀ h, p.ackWait.head? = some h → isAcked w p resp h = false) :
    acknowledged w resp p = p := by
  rcases p with ⟨_, _, _, _, _ | ⟨h, rest⟩, _⟩
  · simp [acknowledged, handedOver_nil]
  · have := hh h rfl
    simp [acknowledged, handedOver_nil, this]

/-- The loop of `CompleteAcked` takes the acknowledged prefix (R241). -/
theorem completeLoop_room (resp : Byte) : ∀ (n : Nat) (s : State), n = s.pool.ackWait.length →
    s.pool.completion.length + s.pool.ackWait.length ≤ s.cfg.window + 4 →
    completeLoop resp n s = { s with pool := acknowledged s.cfg.window resp s.pool } := by
  intro n
  induction n with
  | zero =>
    intro s hn _
    have : s.pool.ackWait = [] := by simpa using hn.symm
    rcases s with ⟨_, _, _, _, _, ⟨_, _, _, _, _, _⟩, _, _⟩
    simp_all [completeLoop, acknowledged, handedOver_nil]
  | succ n ih =>
    intro s hn hl
    obtain ⟨h, rest, ha⟩ : ∃ h rest, s.pool.ackWait = h :: rest := by
      cases hs : s.pool.ackWait with
      | nil => simp [hs] at hn
      | cons h rest => exact ⟨h, rest, rfl⟩
    simp only [ha, List.length_cons] at hn hl
    simp only [completeLoop, ha]
    split
    · rename_i hle
      have hd : descOf s h = descOf { s with pool.ackWait := rest } h := rfl
      rw [hd, complete_room_len (s := { s with pool.ackWait := rest }) h (·.length) .txBufferComplete
        (by simp only; omega), ih]
      · rw [acknowledged_cons ha hle]
      · simp [handedOver]; omega
      · simp [handedOver]; omega
    · rename_i hle
      rw [acknowledged_stop]
      intro k hk
      simp only [ha, List.head?_cons, Option.some.injEq] at hk
      simpa [isAcked, descOf, ← hk] using hle

/-- `CompleteAcked` with room in `completion` (R241). -/
theorem completeAcked_room {s : State} (resp : Byte)
    (hl : s.pool.completion.length + s.pool.ackWait.length ≤ s.cfg.window + 4) :
    completeAcked resp s =
      { s with pool := acknowledged s.cfg.window resp s.pool, link.a := resp } := by
  simp [completeAcked, completeLoop_room resp _ s rfl hl]

/-- `deliver` with room in `completion` (R244, R255). -/
theorem deliver_room {s : State} (h : Handle) (rest : List Handle) (pkt : Packet) (code : EventCode)
    (hl : s.pool.completion.length ≠ s.cfg.window + 4) :
    deliver h rest pkt code s = delivered h rest pkt code s := by
  simp only [deliver]
  rw [complete_room]
  · rfl
  · exact hl

/-! ### ResetVariables -/

theorem releaseItem_foldl (l : List TxItem) : ∀ s : State,
    s.pool.free.length + (l.filterMap (·.desc)).length ≤ s.cfg.window →
    l.foldl (fun acc item => releaseItem item acc) s =
      { s with pool.free := s.pool.free ++ l.filterMap (·.desc) } := by
  induction l with
  | nil => intro s _; simp
  | cons i l ih =>
    intro s hl
    cases hi : i.desc with
    | none =>
      simp only [List.filterMap_cons, hi] at hl ⊢
      rw [List.foldl_cons, releaseItem_none hi, ih s hl]
    | some h =>
      simp only [List.filterMap_cons, hi, List.length_cons] at hl ⊢
      rw [List.foldl_cons, releaseItem_room (fun _ => by omega), ih]
      · simp [hi]
      · simp [hi]; omega

/-- `ResetVariables` with room for what it moves (R232). -/
theorem resetVariables_room {s : State} (h1 : s.pool.ackWait.length + s.pool.transmit.length ≤ s.cfg.window)
    (h2 : s.pool.free.length + (s.tx.fifo.filterMap (·.desc)).length ≤ s.cfg.window) :
    resetVariables s = variablesReset s := by
  simp only [resetVariables]
  rw [requeueAckWait_room (by simpa using h1), releaseItem_foldl _ _ (by simpa [requeued] using h2)]
  rfl

end Sys2Proof.Machine
end

