-- ==== Sys2Proof/Laws/Dispatch.lean ====
section
/-! SUPPORT. The dispatcher: when a scan fires nothing, and what a dispatch is whose event fires nothing, or fires one entry that
leaves the link quiescent (R215 to R218). -/

namespace Sys2Proof.Laws

open Sys2Proof.Machine

/-- The state of the first scan of a dispatch that passes the guard (R351). -/
def firstScan (e : EventKind) (s : State) : State := { enterDispatch s with disp.curEvent := some e }

theorem scanFrom_eq_none (ev : Option EventKind) (pkt : Option RxPkt) (s : State) : ∀ (l : List Rule) (k : Nat),
    scanFrom ev pkt s k l = none ↔ ∀ r ∈ l, r.applies ev pkt s = false
  | [], _ => by simp [scanFrom]
  | r :: rest, k => by
    by_cases h : r.applies ev pkt s = true
    · simp [scanFrom, h]
    · simp [scanFrom, h, scanFrom_eq_none ev pkt s rest (k + 1)]

/-- A scan fires nothing exactly where no entry matches (R217, R219). -/
theorem scan_eq_none (ev : Option EventKind) (s : State) :
    scan ev s = none ↔ ∀ r ∈ ruleTable kickInDispatch, r.applies ev (scanPacket ev s) s = false :=
  scanFrom_eq_none ev (scanPacket ev s) s _ 0

/-- No entry reads the dispatcher's bookkeeping. -/
theorem applies_disp (kick : State → Flow) (ev : Option EventKind) (pkt : Option RxPkt) (s : State) (d : Dispatcher) :
    ∀ r ∈ ruleTable kick, r.applies ev pkt { s with disp := d } = r.applies ev pkt s := by
  intro r hr
  simp only [ruleTable, List.mem_cons, List.not_mem_nil, or_false] at hr
  rcases hr with h | h | h | h | h | h | h | h | h | h | h | h | h | h | h | h | h | h | h | h | h | h | h | h | h | h | h |
    h | h <;> subst h <;> rfl

/-- Quiescence does not depend on the dispatcher's bookkeeping. -/
theorem quiescent_disp (s : State) (d : Dispatcher) : Quiescent { s with disp := d } ↔ Quiescent s := by
  constructor <;> intro h r hr
  · rw [← applies_disp kickInDispatch none none s d r hr]; exact h r hr
  · rw [applies_disp kickInDispatch none none s d r hr]; exact h r hr

/-- A quiescent state is one where a scan with no event fires nothing. -/
theorem quiescent_scan (s : State) : Quiescent s ↔ scan none s = none := by
  rw [scan_eq_none]; rfl

theorem budget_succ (s : State) : ∃ k, budget s = k + 2 := ⟨budget s - 2, by have := budget_large s; omega⟩

theorem leave_resting (s : State) (d : Dispatcher) (h : d.pending = noEvents) :
    leaveDispatch { s with disp := d } = { s with disp := restingDispatcher } := by
  simp [leaveDispatch, restingDispatcher, h]

theorem ready_guard {s : State} (hr : Ready s) (e : EventKind) :
    dispatch e s = dispatchLoop (budget s) (some e) (enterDispatch s) := by
  have ha : s.disp = restingDispatcher := hr.1
  simp [dispatch, hr.2, ha, restingDispatcher]

/-- R219: an event that no entry matches leaves the state as it is. -/
theorem dispatch_drops {s : State} (hr : Ready s) (e : EventKind)
    (h : ∀ r ∈ ruleTable kickInDispatch, r.applies (some e) (scanPacket (some e) s) s = false) : dispatch e s = .go s := by
  obtain ⟨k, hk⟩ := budget_succ s
  have ha : s.disp = restingDispatcher := hr.1
  have hs : scan (some e) (firstScan e s) = none :=
    (scan_eq_none _ _).2 fun r m => (applies_disp kickInDispatch _ _ s _ r m).trans (h r m)
  have hp : pendingFirst s.disp.pending = none := by rw [ha]; rfl
  rw [ready_guard hr, hk]
  change (match scan (some e) (firstScan e s) with
    | some (.ended s1) => Flow.ended s1
    | some .overrun => .overrun
    | some (.go s1) =>
      match pendingFirst s1.disp.pending with
      | some e => dispatchLoop (k + 1) (some e) (takePending e s1)
      | none => dispatchLoop (k + 1) none s1
    | none =>
      match pendingFirst s.disp.pending with
      | some e' => dispatchLoop (k + 1) (some e') (takePending e' (firstScan e s))
      | none => .go (leaveDispatch (firstScan e s))) = _
  rw [hs]; dsimp only; rw [hp]; dsimp only
  rw [firstScan, leave_resting _ _ (by simp [enterDispatch, ha, restingDispatcher])]
  cases s; simp_all [enterDispatch]

/-- R216: an event that fires one entry, which posts nothing and leaves the link quiescent. -/
theorem dispatch_fires {s s1 : State} (hr : Ready s) (e : EventKind) (h : scan (some e) (firstScan e s) = some (.go s1))
    (hp : s1.disp.pending = noEvents) (hq : Quiescent s1) : dispatch e s = .go { s1 with disp := restingDispatcher } := by
  obtain ⟨k, hk⟩ := budget_succ s
  have hn : pendingFirst s1.disp.pending = none := by rw [hp]; rfl
  have hs : scan none { s1 with disp.curEvent := none } = none :=
    (quiescent_scan _).1 ((quiescent_disp s1 _).2 hq)
  rw [ready_guard hr, hk]
  have one : dispatchLoop (k + 2) (some e) (enterDispatch s) = dispatchLoop (k + 1) none s1 := by
    rw [dispatchLoop]
    change (match scan (some e) (firstScan e s) with
      | some (.ended s1) => Flow.ended s1
      | some .overrun => .overrun
      | some (.go s1) =>
        match pendingFirst s1.disp.pending with
        | some e => dispatchLoop (k + 1) (some e) (takePending e s1)
        | none => dispatchLoop (k + 1) none s1
      | none => _) = _
    rw [h]; dsimp only; rw [hn]
  rw [one, dispatchLoop]
  dsimp only
  rw [hs]; dsimp only; rw [hn]; dsimp only
  simp [leaveDispatch, restingDispatcher, hp]

/-- R221: an event whose entry raises Fatal ends the step there. -/
theorem dispatch_ends {s s1 : State} (hr : Ready s) (e : EventKind)
    (h : scan (some e) (firstScan e s) = some (.ended s1)) : dispatch e s = .ended s1 := by
  obtain ⟨k, hk⟩ := budget_succ s
  rw [ready_guard hr, hk, dispatchLoop]
  change (match scan (some e) (firstScan e s) with
    | some (.ended s1) => Flow.ended s1
    | some .overrun => .overrun
    | some (.go s1) => _
    | none => _) = _
  rw [h]

end Sys2Proof.Laws
end

