-- ==== Sys2Proof/Laws/Memory.lean ====
section
/-! SUPPORT. Host memory (R66, R68): what a write leaves to be read, and that every operation that writes memory keeps its
canonical form. -/

namespace Sys2Proof.Laws

open Sys2Proof.Machine

theorem memWfFrom_mono : ∀ (m : Memory) (lo lo' : Nat), lo' ≤ lo → memWfFrom lo m = true → memWfFrom lo' m = true
  | [], _, _, _, _ => rfl
  | (x, b) :: rest, lo, lo', h, hw => by
    simp only [memWfFrom, Bool.and_eq_true, decide_eq_true_eq] at hw ⊢
    exact ⟨⟨by omega, hw.1.2⟩, hw.2⟩

/-- A byte below every listed address reads as unlisted. -/
theorem memRead_below : ∀ (m : Memory) (lo a : Nat), memWfFrom lo m = true → a < lo → memRead m a = blankByte
  | [], _, _, _, _ => rfl
  | (x, b) :: rest, lo, a, hw, ha => by
    simp only [memWfFrom, Bool.and_eq_true, decide_eq_true_eq] at hw
    have hx : x ≠ a := by omega
    simp only [memRead, hx, if_false]
    exact memRead_below rest (x + 1) a hw.2 (by omega)

theorem memWrite_wfFrom : ∀ (m : Memory) (lo a : Nat) (b : Byte), memWfFrom lo m = true → lo ≤ a →
    memWfFrom lo (memWrite m a b) = true
  | [], lo, a, b, _, h => by
    by_cases hb : b = blankByte <;> simp [memWrite, memWfFrom, hb, h]
  | (x, c) :: rest, lo, a, b, hw, h => by
    simp only [memWfFrom, Bool.and_eq_true, decide_eq_true_eq] at hw
    obtain ⟨⟨h1, h2⟩, h3⟩ := hw
    by_cases hlt : a < x
    · by_cases hb : b = blankByte
      · simp [memWrite, memWfFrom, hb, hlt, h1, h2, h3]
      · simp [memWrite, memWfFrom, hb, hlt, h, h2, h3]
    · by_cases he : a = x
      · by_cases hb : b = blankByte
        · simp only [memWrite, he, hb, Nat.lt_irrefl, if_true, if_false]
          simpa using memWfFrom_mono rest (x + 1) lo (by omega) h3
        · simp [memWrite, memWfFrom, he, hb, h1, h3]
      · simp only [memWrite, hlt, he, if_false, memWfFrom, Bool.and_eq_true, decide_eq_true_eq]
        exact ⟨⟨h1, h2⟩, memWrite_wfFrom rest (x + 1) a b h3 (by omega)⟩

/-- Writing one byte keeps the canonical form. -/
theorem memWrite_wf (m : Memory) (a : Nat) (b : Byte) (h : m.wf = true) : Memory.wf (memWrite m a b) = true :=
  memWrite_wfFrom m 0 a b h (Nat.zero_le a)

/-- Writing bytes keeps the canonical form. -/
theorem memWriteBytes_wf : ∀ (bs : List Byte) (m : Memory) (a : Nat), m.wf = true →
    Memory.wf (memWriteBytes m a bs) = true
  | [], _, _, h => h
  | b :: rest, m, a, h => memWriteBytes_wf rest (memWrite m a b) (a + 1) (memWrite_wf m a b h)

/-- The memory of the reset state is in its canonical form. -/
theorem reset_memory_wf : Memory.wf State.reset.env.mem = true := rfl

/-- In a canonical memory, a written byte is read back, and every other byte is as before. -/
theorem memRead_memWrite_from : ∀ (m : Memory) (lo a x : Nat) (b : Byte), memWfFrom lo m = true →
    memRead (memWrite m a b) x = if x = a then b else memRead m x
  | [], _, a, x, b, _ => by
    by_cases hb : b = blankByte
    · simp [memWrite, memRead, hb]
    · by_cases hx : x = a
      · simp [memWrite, memRead, hb, hx]
      · simp [memWrite, memRead, hb, hx, Ne.symm hx]
  | (y, c) :: rest, lo, a, x, b, hw => by
    simp only [memWfFrom, Bool.and_eq_true, decide_eq_true_eq] at hw
    obtain ⟨⟨_, _⟩, h3⟩ := hw
    by_cases hlt : a < y
    · have below : memRead ((y, c) :: rest) a = blankByte :=
        memRead_below _ y a (by simp [memWfFrom, *]) hlt
      by_cases hb : b = blankByte
      · by_cases hx : x = a
        · subst hx; simp only [memWrite, hlt, hb, if_true]; exact below
        · simp [memWrite, hlt, hb, hx]
      · by_cases hx : x = a
        · simp [memWrite, memRead, hlt, hb, hx]
        · simp [memWrite, memRead, hlt, hb, hx, Ne.symm hx]
    · by_cases he : a = y
      · subst he
        by_cases hb : b = blankByte
        · by_cases hx : x = a
          · subst hx
            simp only [memWrite, hlt, hb, if_true, if_false]
            exact memRead_below rest (x + 1) x h3 (by omega)
          · simp [memWrite, memRead, hb, hx, Ne.symm hx]
        · by_cases hx : x = a
          · simp [memWrite, memRead, hb, hx]
          · simp [memWrite, memRead, hb, hx, Ne.symm hx]
      · have ih := memRead_memWrite_from rest (y + 1) a x b h3
        simp only [memWrite, hlt, he, if_false, memRead, ih]
        by_cases hy : y = x
        · have : x ≠ a := by omega
          simp [hy, this]
        · simp [hy]

theorem memRead_memWrite (m : Memory) (a x : Nat) (b : Byte) (h : m.wf = true) :
    memRead (memWrite m a b) x = if x = a then b else memRead m x := memRead_memWrite_from m 0 a x b h

/-- The steps that write host memory outside a dispatch keep its canonical form: a delivery and the host's own store. -/
theorem deliver_wf (h : Handle) (rest : List Handle) (pkt : Packet) (code : EventCode) (s : State)
    (hw : Memory.wf s.env.mem = true) : Memory.wf (deliver h rest pkt code s).env.mem = true := by
  have : (deliver h rest pkt code s).env.mem = memWriteBytes s.env.mem (descOf s h).address pkt.payload := rfl
  rw [this]
  exact memWriteBytes_wf _ _ _ hw

theorem fetch_stored_wf (s s1 : State) (hw : Memory.wf s.env.mem = true) (h : fetch s = .stored s1) :
    Memory.wf s1.env.mem = true := by
  unfold fetch at h
  split at h
  · cases h
  · dsimp only at h; split at h <;> cases h
  · split at h
    · split at h <;> cases h
    · cases h
  · cases h; exact memWriteBytes_wf _ _ _ hw

end Sys2Proof.Laws
end

