-- ==== Sys2Proof/Laws/PerInstr.lean ====
section
/-! SUPPORT. One lemma for each instruction: what the encoder writes for it, if anything (R81, R82, R99). -/

namespace Sys2Proof.Laws

/-- What the encoder writes for an instruction is at least a header, and starts with one of the three type markers. -/
def EncodeForm.Statement (i : Instr) : Prop :=
  ∀ b, encode i = some b → 8 ≤ b.length ∧ (b.head? = some typeSOH ∨ b.head? = some typeENQ ∨ b.head? = some typeDLE)

theorem encodeData_form (type : Byte) (h : DataHeader) (p : List Byte) (c : Word16) :
    8 ≤ (encodeData type h p c).length ∧ (encodeData type h p c).head? = some type := by
  simp [encodeData]

theorem encodeControl_form (sub : Byte) (h : ControlHeader) :
    8 ≤ (encodeControl sub h).length ∧ (encodeControl sub h).head? = some typeENQ := by
  simp [encodeControl]

theorem EncodeForm.data (h : DataHeader) (payload : List Byte) (dcrc : Word16) : EncodeForm.Statement (.data h payload dcrc) := by
  intro b e; cases e
  exact ⟨(encodeData_form typeSOH h payload dcrc).1, .inl (encodeData_form typeSOH h payload dcrc).2⟩
theorem EncodeForm.maint (h : DataHeader) (payload : List Byte) (dcrc : Word16) : EncodeForm.Statement (.maint h payload dcrc) := by
  intro b e; cases e
  exact ⟨(encodeData_form typeDLE h payload dcrc).1, .inr (.inr (encodeData_form typeDLE h payload dcrc).2)⟩
theorem EncodeForm.ack (h : ControlHeader) : EncodeForm.Statement (.ack h) := by
  intro b e; cases e
  exact ⟨(encodeControl_form ctlAck h).1, .inr (.inl (encodeControl_form ctlAck h).2)⟩
theorem EncodeForm.nak (h : ControlHeader) : EncodeForm.Statement (.nak h) := by
  intro b e; cases e
  exact ⟨(encodeControl_form ctlNak h).1, .inr (.inl (encodeControl_form ctlNak h).2)⟩
theorem EncodeForm.rep (h : ControlHeader) : EncodeForm.Statement (.rep h) := by
  intro b e; cases e
  exact ⟨(encodeControl_form ctlRep h).1, .inr (.inl (encodeControl_form ctlRep h).2)⟩
theorem EncodeForm.strt (h : ControlHeader) : EncodeForm.Statement (.strt h) := by
  intro b e; cases e
  exact ⟨(encodeControl_form ctlStrt h).1, .inr (.inl (encodeControl_form ctlStrt h).2)⟩
theorem EncodeForm.stack (h : ControlHeader) : EncodeForm.Statement (.stack h) := by
  intro b e; cases e
  exact ⟨(encodeControl_form ctlStack h).1, .inr (.inl (encodeControl_form ctlStack h).2)⟩
theorem EncodeForm.crc16 (seed : Word16) (s : List Byte) : EncodeForm.Statement (.crc16 seed s) := fun _ e => nomatch e
theorem EncodeForm.header (b0 b1 b2 b3 b4 : Byte) : EncodeForm.Statement (.header b0 b1 b2 b3 b4) := fun _ e => nomatch e
theorem EncodeForm.trailer (p : List Byte) : EncodeForm.Statement (.trailer p) := fun _ e => nomatch e
theorem EncodeForm.buildData (buf : List Byte) (len : BitVec 14) (flags : BitVec 2) (num resp : Byte) : EncodeForm.Statement (.buildData buf len flags num resp) := fun _ e => nomatch e
theorem EncodeForm.buildAck (resp : Byte) (flags : BitVec 2) : EncodeForm.Statement (.buildAck resp flags) := fun _ e => nomatch e
theorem EncodeForm.buildNak (reason : BitVec 6) (resp : Byte) (flags : BitVec 2) : EncodeForm.Statement (.buildNak reason resp flags) := fun _ e => nomatch e
theorem EncodeForm.buildRep (num : Byte) (flags : BitVec 2) : EncodeForm.Statement (.buildRep num flags) := fun _ e => nomatch e
theorem EncodeForm.buildStart (flags : BitVec 2) : EncodeForm.Statement (.buildStart flags) := fun _ e => nomatch e
theorem EncodeForm.buildStartAck (flags : BitVec 2) : EncodeForm.Statement (.buildStartAck flags) := fun _ e => nomatch e
theorem EncodeForm.buildMaintenance (len : BitVec 14) : EncodeForm.Statement (.buildMaintenance len) := fun _ e => nomatch e
theorem EncodeForm.parse (bytes : List Byte) : EncodeForm.Statement (.parse bytes) := fun _ e => nomatch e
theorem EncodeForm.seqCmp (a b : Byte) (w : Nat) : EncodeForm.Statement (.seqCmp a b w) := fun _ e => nomatch e
theorem EncodeForm.inc (f : IncForm) : EncodeForm.Statement (.inc f) := fun _ e => nomatch e
theorem EncodeForm.enqueue (x : QueueArg) : EncodeForm.Statement (.enqueue x) := fun _ e => nomatch e
theorem EncodeForm.pushFront (x : QueueArg) : EncodeForm.Statement (.pushFront x) := fun _ e => nomatch e
theorem EncodeForm.dequeue (q : QueueName) : EncodeForm.Statement (.dequeue q) := fun _ e => nomatch e
theorem EncodeForm.head (q : QueueName) : EncodeForm.Statement (.head q) := fun _ e => nomatch e
theorem EncodeForm.count (q : QueueName) : EncodeForm.Statement (.count q) := fun _ e => nomatch e
theorem EncodeForm.findSeq (s : Byte) : EncodeForm.Statement (.findSeq s) := fun _ e => nomatch e
theorem EncodeForm.alloc (k : BufferKind) : EncodeForm.Statement (.alloc k) := fun _ e => nomatch e
theorem EncodeForm.release (h : Handle) : EncodeForm.Statement (.release h) := fun _ e => nomatch e
theorem EncodeForm.requeueAckWait : EncodeForm.Statement .requeueAckWait := fun _ e => nomatch e
theorem EncodeForm.notify (code : EventCode) : EncodeForm.Statement (.notify code) := fun _ e => nomatch e
theorem EncodeForm.startTimer : EncodeForm.Statement .startTimer := fun _ e => nomatch e
theorem EncodeForm.stopTimer : EncodeForm.Statement .stopTimer := fun _ e => nomatch e
theorem EncodeForm.tick : EncodeForm.Statement .tick := fun _ e => nomatch e
theorem EncodeForm.assignReceiveBuffer (address length : Nat) : EncodeForm.Statement (.assignReceiveBuffer address length) := fun _ e => nomatch e
theorem EncodeForm.enqueueTransmitBuffer (address length : Nat) (endOfMessage : Bool) : EncodeForm.Statement (.enqueueTransmitBuffer address length endOfMessage) := fun _ e => nomatch e
theorem EncodeForm.killReceiveBuffers (enable : Bool) : EncodeForm.Statement (.killReceiveBuffers enable) := fun _ e => nomatch e
theorem EncodeForm.killTransmitBuffers (enable : Bool) : EncodeForm.Statement (.killTransmitBuffers enable) := fun _ e => nomatch e
theorem EncodeForm.setLineEnabled (enabled : Bool) : EncodeForm.Statement (.setLineEnabled enabled) := fun _ e => nomatch e
theorem EncodeForm.userStartup : EncodeForm.Statement .userStartup := fun _ e => nomatch e
theorem EncodeForm.userHalt : EncodeForm.Statement .userHalt := fun _ e => nomatch e
theorem EncodeForm.userMaintenance : EncodeForm.Statement .userMaintenance := fun _ e => nomatch e
theorem EncodeForm.hostPickup : EncodeForm.Statement .hostPickup := fun _ e => nomatch e
theorem EncodeForm.txSend (item : TxItem) : EncodeForm.Statement (.txSend item) := fun _ e => nomatch e
theorem EncodeForm.txKick : EncodeForm.Statement .txKick := fun _ e => nomatch e
theorem EncodeForm.transmitComplete : EncodeForm.Statement .transmitComplete := fun _ e => nomatch e
theorem EncodeForm.transportSend (bytes : List Byte) : EncodeForm.Statement (.transportSend bytes) := fun _ e => nomatch e
theorem EncodeForm.onReceive (bytes : List Byte) : EncodeForm.Statement (.onReceive bytes) := fun _ e => nomatch e
theorem EncodeForm.onTransmitComplete : EncodeForm.Statement .onTransmitComplete := fun _ e => nomatch e
theorem EncodeForm.onLineStatusChange (connected : Bool) : EncodeForm.Statement (.onLineStatusChange connected) := fun _ e => nomatch e
theorem EncodeForm.reset : EncodeForm.Statement .reset := fun _ e => nomatch e
theorem EncodeForm.dispatch (e : EventKind) : EncodeForm.Statement (.dispatch e) := fun _ e => nomatch e
theorem EncodeForm.sendControl (bytes : List Byte) : EncodeForm.Statement (.sendControl bytes) := fun _ e => nomatch e
theorem EncodeForm.resetVariables : EncodeForm.Statement .resetVariables := fun _ e => nomatch e
theorem EncodeForm.setSACK : EncodeForm.Statement .setSACK := fun _ e => nomatch e
theorem EncodeForm.setSNAK (r : BitVec 6) : EncodeForm.Statement (.setSNAK r) := fun _ e => nomatch e
theorem EncodeForm.clearSNAK : EncodeForm.Statement .clearSNAK := fun _ e => nomatch e
theorem EncodeForm.setSREP : EncodeForm.Statement .setSREP := fun _ e => nomatch e
theorem EncodeForm.clearSREP : EncodeForm.Statement .clearSREP := fun _ e => nomatch e
theorem EncodeForm.clearSACK : EncodeForm.Statement .clearSACK := fun _ e => nomatch e
theorem EncodeForm.setSNAKFromError (reason : BitVec 6) : EncodeForm.Statement (.setSNAKFromError reason) := fun _ e => nomatch e
theorem EncodeForm.sendStrt : EncodeForm.Statement .sendStrt := fun _ e => nomatch e
theorem EncodeForm.sendStack : EncodeForm.Statement .sendStack := fun _ e => nomatch e
theorem EncodeForm.completeAcked (pkt : Packet) : EncodeForm.Statement (.completeAcked pkt) := fun _ e => nomatch e
theorem EncodeForm.bumpT : EncodeForm.Statement .bumpT := fun _ e => nomatch e
theorem EncodeForm.setTToAplus1 : EncodeForm.Statement .setTToAplus1 := fun _ e => nomatch e
theorem EncodeForm.stopTimerIfAGeX : EncodeForm.Statement .stopTimerIfAGeX := fun _ e => nomatch e
theorem EncodeForm.giveBufferToUser (pkt : Packet) : EncodeForm.Statement (.giveBufferToUser pkt) := fun _ e => nomatch e
theorem EncodeForm.sendNewData : EncodeForm.Statement .sendNewData := fun _ e => nomatch e
theorem EncodeForm.retransmitT : EncodeForm.Statement .retransmitT := fun _ e => nomatch e
theorem EncodeForm.sendAck : EncodeForm.Statement .sendAck := fun _ e => nomatch e
theorem EncodeForm.sendNak : EncodeForm.Statement .sendNak := fun _ e => nomatch e
theorem EncodeForm.sendRep : EncodeForm.Statement .sendRep := fun _ e => nomatch e
theorem EncodeForm.nakMissing (pkt : Packet) : EncodeForm.Statement (.nakMissing pkt) := fun _ e => nomatch e
theorem EncodeForm.setXToSentNum : EncodeForm.Statement .setXToSentNum := fun _ e => nomatch e
theorem EncodeForm.startOrStopTimerByAX : EncodeForm.Statement .startOrStopTimerByAX := fun _ e => nomatch e
theorem EncodeForm.notifyDisconnect : EncodeForm.Statement .notifyDisconnect := fun _ e => nomatch e
theorem EncodeForm.notifyStartReceived : EncodeForm.Statement .notifyStartReceived := fun _ e => nomatch e
theorem EncodeForm.notifyMaintReceived : EncodeForm.Statement .notifyMaintReceived := fun _ e => nomatch e
theorem EncodeForm.clearStartReceived : EncodeForm.Statement .clearStartReceived := fun _ e => nomatch e
theorem EncodeForm.deliverMaintToHost (pkt : Packet) : EncodeForm.Statement (.deliverMaintToHost pkt) := fun _ e => nomatch e
theorem EncodeForm.sendMaintMessage : EncodeForm.Statement .sendMaintMessage := fun _ e => nomatch e
theorem EncodeForm.dr00 : EncodeForm.Statement .dr00 := fun _ e => nomatch e
theorem EncodeForm.dr01 : EncodeForm.Statement .dr01 := fun _ e => nomatch e
theorem EncodeForm.dr02 : EncodeForm.Statement .dr02 := fun _ e => nomatch e
theorem EncodeForm.dr03 : EncodeForm.Statement .dr03 := fun _ e => nomatch e
theorem EncodeForm.dr04 : EncodeForm.Statement .dr04 := fun _ e => nomatch e
theorem EncodeForm.dr05 : EncodeForm.Statement .dr05 := fun _ e => nomatch e
theorem EncodeForm.dr06 : EncodeForm.Statement .dr06 := fun _ e => nomatch e
theorem EncodeForm.dr07 : EncodeForm.Statement .dr07 := fun _ e => nomatch e
theorem EncodeForm.dr08 : EncodeForm.Statement .dr08 := fun _ e => nomatch e
theorem EncodeForm.dr09 : EncodeForm.Statement .dr09 := fun _ e => nomatch e
theorem EncodeForm.dr10 : EncodeForm.Statement .dr10 := fun _ e => nomatch e
theorem EncodeForm.dr11 : EncodeForm.Statement .dr11 := fun _ e => nomatch e
theorem EncodeForm.dr12 : EncodeForm.Statement .dr12 := fun _ e => nomatch e
theorem EncodeForm.dr13 : EncodeForm.Statement .dr13 := fun _ e => nomatch e
theorem EncodeForm.dr14 : EncodeForm.Statement .dr14 := fun _ e => nomatch e
theorem EncodeForm.dr15 : EncodeForm.Statement .dr15 := fun _ e => nomatch e
theorem EncodeForm.dr16 : EncodeForm.Statement .dr16 := fun _ e => nomatch e
theorem EncodeForm.dr17 : EncodeForm.Statement .dr17 := fun _ e => nomatch e
theorem EncodeForm.dr18 : EncodeForm.Statement .dr18 := fun _ e => nomatch e
theorem EncodeForm.dr19 : EncodeForm.Statement .dr19 := fun _ e => nomatch e
theorem EncodeForm.dr20 : EncodeForm.Statement .dr20 := fun _ e => nomatch e
theorem EncodeForm.dr21 : EncodeForm.Statement .dr21 := fun _ e => nomatch e
theorem EncodeForm.dr22 : EncodeForm.Statement .dr22 := fun _ e => nomatch e
theorem EncodeForm.dr23 : EncodeForm.Statement .dr23 := fun _ e => nomatch e
theorem EncodeForm.dr24 : EncodeForm.Statement .dr24 := fun _ e => nomatch e
theorem EncodeForm.dr25 : EncodeForm.Statement .dr25 := fun _ e => nomatch e
theorem EncodeForm.dr26 : EncodeForm.Statement .dr26 := fun _ e => nomatch e
theorem EncodeForm.dr27 : EncodeForm.Statement .dr27 := fun _ e => nomatch e
theorem EncodeForm.dr28 : EncodeForm.Statement .dr28 := fun _ e => nomatch e
theorem EncodeForm.drDefault : EncodeForm.Statement .drDefault := fun _ e => nomatch e

end Sys2Proof.Laws
end

