-- ==== Sys2Proof/Laws/Transmit.lean ====
section
/-! SUPPORT. What offering a frame and kicking the transmitter do (48_interfaces.md R310 to R314, R321, R322), said once for
each answer of the transport, and what the sending actions stage (46_dispatch_engine.md). -/

namespace Sys2Proof.Machine

/-! ### Offering a frame -/

theorem transportAnswer_update {s t : State} (he : t.env = s.env) :
    transportAnswer t = ((transportAnswer s).1, { t with env := (transportAnswer s).2.env }) := by
  cases ha : s.env.answers <;> simp [transportAnswer, he, ha]

theorem transportSend_update (b : List Byte) {s t : State} (he : t.env = s.env) :
    transportSend b t = ((transportSend b s).1, { t with env := (transportSend b s).2.env }) := by
  simp only [transportSend, transportAnswer_update he]
  split <;> rfl

theorem corruptionChoice_update {s t : State} (hc : t.cfg = s.cfg) (he : t.env = s.env) :
    corruptionChoice t = ((corruptionChoice s).1, { t with env := (corruptionChoice s).2.env }) := by
  simp only [corruptionChoice, hc, he]
  split
  · rw [← hc, ← he]
  · cases s.env.draws <;> simp

/-- Offering a frame changes the boundary only, and depends on the configuration and the boundary only. -/
theorem offerFrame_update (b : List Byte) {s t : State} (hc : t.cfg = s.cfg) (he : t.env = s.env) :
    offerFrame b t = ((offerFrame b s).1, { t with env := (offerFrame b s).2.env }) := by
  simp only [offerFrame, corruptionChoice_update hc he]
  cases (corruptionChoice s).1 with
  | drop => rfl
  | pass => simp only [transportSend_update b (s := (corruptionChoice s).2)
      (t := { t with env := (corruptionChoice s).2.env }) rfl]
  | flip bits => simp only [transportSend_update (applyDraw (.flip bits) b) (s := (corruptionChoice s).2)
      (t := { t with env := (corruptionChoice s).2.env }) rfl]

theorem offerFrame_boundary (b : List Byte) (s : State) :
    offerFrame b s = ((offerFrame b s).1, { s with env := (offerFrame b s).2.env }) := offerFrame_update b rfl rfl

/-- What an offer leaves, as an update of the boundary. -/
theorem offerFrame_eq {b : List Byte} {s s1 : State} {a : SendAnswer} (h : offerFrame b s = (a, s1)) :
    s1 = { s with env := s1.env } := by
  rw [offerFrame_boundary] at h
  injection h with _ h2
  rw [← h2]

/-- With the policy off, what is heard is what the receive table gives, and nothing is consumed (R316, R322). -/
theorem heard_off (b : List Byte) {s : State} (hp : s.cfg.corruptPermille = 0) : heard b s = (received b, s) := by
  simp [heard, corruptionChoice, hp]

/-- With the policy off, receiving while a dispatch runs posts the packet, or changes nothing (R215, R316). -/
theorem receiveScanning_off (b : List Byte) {s : State} (hp : s.cfg.corruptPermille = 0) (hn : s.latch.fatal = false) :
    receiveScanning s b = match received b with
      | some rx => postEvent .packetReceived { s with tx.rxPkt := some rx }
      | none => s := by
  simp only [receiveScanning, hn, heard_off b hp, dispatchScanning]
  cases received b <;> simp

/-- With the policy off, the next listed answer decides, and an accepted frame is recorded. -/
theorem offerFrame_listed {b : List Byte} {s : State} {a : SendAnswer} {as : List SendAnswer}
    (hp : s.cfg.corruptPermille = 0) (ha : s.env.answers = a :: as) :
    offerFrame b s =
      (a, { s with env.answers := as, env.wire := s.env.wire ++ (if a = .refused then [] else [b]) }) := by
  cases a <;> simp [offerFrame, corruptionChoice, hp, transportSend, transportAnswer, ha]

/-! ### Kicking the transmitter -/

theorem budget_pos (s : State) : ∃ n, budget s = n + 1 := ⟨budget s - 1, by have := budget_large s; omega⟩

theorem kickScanning_busy (n : Nat) {s : State} (h : s.tx.inflight ≠ none) : kickScanning n s = s := by
  cases n with
  | zero => rfl
  | succ n => simp [kickScanning, Option.isSome_iff_ne_none.2 h]

theorem kickScanning_empty (n : Nat) {s : State} (h : s.tx.fifo = []) : kickScanning n s = s := by
  cases n with
  | zero => rfl
  | succ n => simp [kickScanning, h]

theorem kickInDispatch_busy {s : State} (h : s.tx.inflight ≠ none) : kickInDispatch s = .go s := by
  simp [kickInDispatch, kickScanning_busy _ h]

theorem txKick_busy {s : State} (h : s.tx.inflight ≠ none) : txKick s = .go s := by
  obtain ⟨n, hn⟩ := budget_pos s
  simp only [txKick]
  split
  · exact kickInDispatch_busy h
  · simp [hn, kickIdle, Option.isSome_iff_ne_none.2 h]

theorem txKick_empty {s : State} (h : s.tx.fifo = []) : txKick s = .go s := by
  obtain ⟨n, hn⟩ := budget_pos s
  simp only [txKick]
  split
  · simp [kickInDispatch, kickScanning_empty _ h]
  · simp [hn, kickIdle, h]

variable {s s1 : State} {x : TxItem} {xs : List TxItem}

theorem kickInDispatch_refused (hi : s.tx.inflight = none) (hf : s.tx.fifo = x :: xs)
    (ho : offerFrame x.bytes s = (.refused, s1)) : kickInDispatch s = .go s1 := by
  simp [kickInDispatch, hf, kickScanning, hi, ho]

theorem txKick_refused (hi : s.tx.inflight = none) (hf : s.tx.fifo = x :: xs)
    (ho : offerFrame x.bytes s = (.refused, s1)) : txKick s = .go s1 := by
  obtain ⟨n, hn⟩ := budget_pos s
  simp only [txKick]
  split
  · exact kickInDispatch_refused hi hf ho
  · simp [hn, kickIdle, hf, hi, ho]

theorem kickInDispatch_later (hi : s.tx.inflight = none) (hf : s.tx.fifo = x :: xs)
    (ho : offerFrame x.bytes s = (.acceptedLater, s1)) :
    kickInDispatch s = .go { s1 with tx.fifo := xs, tx.inflight := some x } := by
  simp [kickInDispatch, hf, kickScanning, hi, ho, takeFlight]

theorem txKick_later (hi : s.tx.inflight = none) (hf : s.tx.fifo = x :: xs)
    (ho : offerFrame x.bytes s = (.acceptedLater, s1)) :
    txKick s = .go { s1 with tx.fifo := xs, tx.inflight := some x } := by
  obtain ⟨n, hn⟩ := budget_pos s
  simp only [txKick]
  split
  · exact kickInDispatch_later hi hf ho
  · simp [hn, kickIdle, hf, hi, ho, takeFlight]

theorem landFlight_room {i : TxItem} (hl : i.desc ≠ none → s.pool.free.length ≠ s.cfg.window) :
    landFlight i s = { s with
      tx := { s.tx with inflight := none, doneKind := i.kind, doneNum := i.num }
      pool.free := s.pool.free ++ i.desc.toList } := by
  simp only [landFlight]
  rw [releaseItem_room]
  exact hl

/-- The only staged frame leaves inside `send` while a dispatch runs (R312, R317). -/
theorem kickInDispatch_now (hi : s.tx.inflight = none) (hf : s.tx.fifo = [x])
    (ho : offerFrame x.bytes s = (.acceptedNow, s1)) (hn : s.latch.fatal = false)
    (hl : x.desc ≠ none → s.pool.free.length ≠ s.cfg.window) : kickInDispatch s = .go (completedInside x s1) := by
  have h1 := offerFrame_eq ho
  simp only [kickInDispatch, hf, List.length_singleton, kickScanning, hi, Option.isSome_none, ho]
  rw [landFlight_room]
  · rw [h1]
    simp [dispatchScanning, takeFlight, hn, postEvent, pendingSet, completedInside]
  · rw [h1]; exact hl

theorem txKick_now (hs : s.disp.scanning = true) (hi : s.tx.inflight = none) (hf : s.tx.fifo = [x])
    (ho : offerFrame x.bytes s = (.acceptedNow, s1)) (hn : s.latch.fatal = false)
    (hl : x.desc ≠ none → s.pool.free.length ≠ s.cfg.window) : txKick s = .go (completedInside x s1) := by
  simp only [txKick, hs, if_true]
  exact kickInDispatch_now hi hf ho hn hl

/-- The transport delivers frames inside the send and reports completion later, while a dispatch runs (R378). -/
theorem kickInDispatch_receiving {frames : List (List Byte)} (hi : s.tx.inflight = none) (hf : s.tx.fifo = x :: xs)
    (ho : offerFrame x.bytes s = (.acceptedReceiving frames false, s1)) :
    kickInDispatch s = .go (frames.foldl receiveScanning { s1 with tx.fifo := xs, tx.inflight := some x }) := by
  simp [kickInDispatch, hf, kickScanning, hi, ho, takeFlight]

/-- The same outside a dispatch: the frames are received one by one, the item in flight (R378). -/
theorem txKick_receiving {frames : List (List Byte)} (hs : s.disp.scanning = false) (hi : s.tx.inflight = none)
    (hf : s.tx.fifo = x :: xs) (ho : offerFrame x.bytes s = (.acceptedReceiving frames false, s1)) :
    txKick s = runActions (frames.map onReceive) { s1 with tx.fifo := xs, tx.inflight := some x } := by
  obtain ⟨n, hn⟩ := budget_pos s
  simp only [txKick, hs, hn, kickIdle, hf, hi, ho, takeFlight]
  cases h : runActions (frames.map onReceive) { s1 with tx.fifo := xs, tx.inflight := some x } <;>
    simp [Flow.andThen]

/-- An instruction that ends with a kick, and then writes link variables and the timer only, sends the frame it staged. -/
theorem sends_of_kick (pre : State) (fl : Config → LinkVars → LinkVars) (ft : Config → Timer → Timer) :
    Sends (((txKick pre).andThen fun s => .go { s with link := fl s.cfg s.link, timer := ft s.cfg s.timer }).outcome)
      { pre with link := fl pre.cfg pre.link, timer := ft pre.cfg pre.timer } := by
  refine ⟨fun h => ?_, fun x xs s1 hi hf => ?_⟩
  · rw [txKick_busy (s := pre) h]; rfl
  · have hb := offerFrame_update x.bytes (t := pre)
      (s := { pre with link := fl pre.cfg pre.link, timer := ft pre.cfg pre.timer }) rfl rfl
    refine ⟨fun ho => ?_, fun ho => ?_, fun ho hs hn hl hx => ?_⟩
    · rw [ho] at hb
      rw [txKick_refused (s := pre) hi hf hb, offerFrame_eq ho]; rfl
    · rw [ho] at hb
      rw [txKick_later (s := pre) hi hf hb, offerFrame_eq ho]; rfl
    · rw [ho] at hb
      subst hx
      rw [txKick_now (s := pre) hs hi hf hb hn (fun _ => hl), offerFrame_eq ho]; rfl

theorem sends_kick (pre : State) : Sends ((txKick pre).outcome) pre := by
  have h := sends_of_kick pre (fun _ l => l) (fun _ t => t)
  have hid : (txKick pre).andThen (fun s => .go { s with link := s.link, timer := s.timer }) = txKick pre := by
    cases txKick pre <;> rfl
  rw [hid] at h
  exact h

/-! ### What the sending actions stage -/

theorem sendControl_nil (kick : State → Flow) (b : List Byte) (hf : s.pool.free = [])
    (hl : s.pool.completion.length ≠ s.cfg.window + 4) :
    sendControl kick b s = .ended (afterFatal .poolExhausted s) := by
  simp [sendControl, alloc_nil _ hf, raiseFatal_room _ hl]

theorem sendControl_cons (kick : State → Flow) (b : List Byte) {h : Handle} {rest : List Handle}
    (hf : s.pool.free = h :: rest) : sendControl kick b s = kick (stagedControl b h rest s) := by
  have hm : (s.pool.desc.modify h fun d => { d with kind := .transmitControl, actual := 0, seq := 0, eom := false }).modify h
      (fun d => { d with length := 8 }) =
      s.pool.desc.modify h fun d => { d with kind := .transmitControl, actual := 0, seq := 0, eom := false, length := 8 } := by
    rw [List.modify_modify_eq]; rfl
  simp only [sendControl, alloc_cons _ hf, txSend, setDesc, allocated, hm]
  rfl

theorem sendNewData_cons (kick : State → Flow) {h : Handle} {rest : List Handle} (ht : s.pool.transmit = h :: rest)
    (hl : s.pool.ackWait.length ≠ s.cfg.window) : sendNewData kick s = kick (stagedData h rest s) := by
  have hd : ∀ f : Descriptor → Descriptor, (∀ d, (f d).address = d.address) → (∀ d, (f d).length = d.length) →
      ∀ t : State, t.pool.desc = s.pool.desc.modify h f →
      (descOf t h).address = (descOf s h).address ∧ (descOf t h).length = (descOf s h).length := by
    intro f ha hlen t htd
    simp only [descOf, htd, ← touch_singleton, touch_getD]
    split <;> simp [ha, hlen]
  simp only [sendNewData, ht]
  rw [enqueue_room (q := .ackWait) h (by simpa [handles] using hl)]
  simp only [txSend, setDesc, setHandles, handles, bufferBytes, inc]
  obtain ⟨h1, h2⟩ := hd (fun d => { d with seq := s.link.n + 1 }) (fun _ => rfl) (fun _ => rfl)
    { s with
      link.n := s.link.n + 1, link.t := s.link.n + 1 + 1
      pool := { s.pool with
        transmit := rest, ackWait := s.pool.ackWait ++ [h]
        desc := s.pool.desc.modify h fun d => { d with seq := s.link.n + 1 } } } rfl
  rw [h1, h2]
  rfl

theorem sendMaintMessage_cons (kick : State → Flow) {h : Handle} {rest : List Handle} (ht : s.pool.transmit = h :: rest)
    (hl : s.pool.completion.length ≠ s.cfg.window + 4) : sendMaintMessage kick s = kick (stagedMaint h rest s) := by
  simp only [sendMaintMessage, ht, txSend, bufferBytes]
  have hd : descOf s h = descOf { s with pool.transmit := rest } h := rfl
  rw [hd, complete_room_len (s := { s with pool.transmit := rest }) h (·.length) .txBufferComplete hl]
  rfl

end Sys2Proof.Machine
end

