-- ==== Sys2Proof/Tests/Slice0.lean ====
section
/-! SUPPORT. Tests: ill-formed terms, words written out from the encodings, single steps whose results stand in the spec
(95_test_vectors.md and the examples of the rules), and for each statement a state and operands that meet its hypotheses. -/

namespace Sys2Proof.Tests

open Sys2Proof.Machine

set_option Elab.async false

/-! ### Helpers -/

/-- The next state, where there is one. -/
def after (o : Host.Outcome State Fault Refusal) : Option State :=
  match o with
  | .next s => some s
  | .fault _ => none
  | .refused _ => none

/-- Reset, then the line is up and the link in this state. -/
def linkIn (st : LinkState) : State :=
  { State.reset with link := { State.reset.link with state := st, lineConnected := true } }

/-- A transport that completes the next sends inside `send`. -/
def sync (n : Nat) (s : State) : State := { s with env.answers := List.replicate n .acceptedNow }

/-- A transport that reports the next send later. -/
def later (s : State) : State := { s with env.answers := [.acceptedLater] }

/-- A data frame in flight. -/
def busy (s : State) : State := { s with tx.inflight := some { bytes := [1], kind := .data, num := 3, desc := none } }

/-- A dispatch scans for an event. -/
def scanning (e : EventKind) (s : State) : State := { s with disp.curEvent := some e }

/-- A packet of a class has been received and is scanned. -/
def gotClass (c : PacketClass) (num resp : Byte) (s : State) : State :=
  { scanning .packetReceived s with
    tx.rxPkt := some (.packet { cls := c, count := 0, flags := 0, resp := resp, num := num, subfield := 0, addr := 1,
                                payload := [] }) }

/-- One receive buffer, handle 2, with a capacity. -/
def oneReceive (len : BitVec 14) (s : State) : State :=
  { s with pool := { s.pool with free := [3, 4, 5, 6, 7, 0, 1], receive := [2]
                                 desc := s.pool.desc.modify 2 fun d => { d with kind := .receive, address := 100,
                                                                                length := len } } }

/-- One transmit buffer, handle 2, of three bytes. -/
def oneTransmit (s : State) : State :=
  { s with
    pool := { s.pool with free := [3, 4, 5, 6, 7, 0, 1], transmit := [2]
                          desc := s.pool.desc.modify 2 fun d => { d with kind := .transmitData, address := 100, length := 3 } }
    env.mem := [(100, 0x41), (101, 0x42), (102, 0x43)] }

/-- Three buffers in `ack_wait`, numbered 10 to 12 (V-D5). -/
def threeSent : State :=
  let s := linkIn .run
  { s with
    link := { s.link with n := 12, a := 9, t := 13, x := 12 }
    timer := { running := true, remaining := 3 }
    pool := { s.pool with
      free := [5, 6, 7, 0, 1], ackWait := [2, 3, 4]
      desc := s.pool.desc.mapIdx fun i d => { d with kind := .transmitData, length := 3, seq := BitVec.ofNat 8 (i + 8) } } }

/-- A pool with nothing free. -/
def noneFree (s : State) : State := { s with pool.free := [] }

/-- A data frame. -/
def dataItem : TxItem := { bytes := [1, 2], kind := .data, num := 3, desc := none }

/-- A link in Run with a frame staged, and the transport's answer to it. -/
def offering (a : SendAnswer) : State := { linkIn .run with tx.fifo := [dataItem], env.answers := [a] }

/-- `completion` at its capacity, W + 4. -/
def fullCompletion : List Completion := List.replicate 12 { buffer := some 0, actualLength := 0, code := .rxBufferKilled }

/-! ### Ill-formed terms -/

theorem test_wf_data_count : (Instr.data { flags := 0, count := 3, resp := 0, num := 0, addr := 1, hcrc := 0 } [1, 2] 0).wellFormed
    = false := by decide
theorem test_wf_maint_count : (Instr.maint { flags := 3, count := 0, resp := 0, num := 0, addr := 1, hcrc := 0 } [1] 0).wellFormed
    = false := by decide
theorem test_wf_trailer_length : (Instr.trailer (List.replicate 16384 0)).wellFormed = false := by
  simp only [Instr.wellFormed, List.length_replicate]; decide
theorem test_wf_build_data_length : (Instr.buildData [1, 2] 3 0 0 0).wellFormed = false := by decide
theorem test_wf_window : (Instr.seqCmp 0 0 256).wellFormed = false := by decide
theorem test_wf_record_code :
    (Instr.enqueue (.recordIn { buffer := none, actualLength := 0, code := .rxBufferKilled })).wellFormed = false ∧
    (Instr.pushFront (.recordIn { buffer := some 1, actualLength := 0, code := .fatal })).wellFormed = false ∧
    (Instr.enqueue (.recordIn { buffer := none, actualLength := 1, code := .fatal })).wellFormed = false := by decide
theorem test_wf_notify_code : (Instr.notify .txBufferComplete).wellFormed = false := by decide
theorem test_wf_tx_item :
    (Instr.txSend { bytes := [], kind := .control, num := 0, desc := some 0 }).wellFormed = false ∧
    (Instr.txSend { bytes := [], kind := .data, num := 0, desc := some 0 }).wellFormed = false := by decide
theorem test_wf_send_control : (Instr.sendControl [1, 2, 3]).wellFormed = false := by decide
theorem test_wf_error_reason : (Instr.setSNAKFromError 3).wellFormed = false := by decide
theorem test_wf_packet_class :
    let p : Packet := { cls := .rep, count := 0, flags := 0, resp := 0, num := 0, subfield := 0, addr := 1, payload := [] }
    (Instr.completeAcked p).wellFormed = false ∧ (Instr.giveBufferToUser p).wellFormed = false ∧
    (Instr.nakMissing p).wellFormed = false ∧ (Instr.deliverMaintToHost p).wellFormed = false := by decide
theorem test_wf_packet_payload :
    (Instr.giveBufferToUser { cls := .data, count := 2, flags := 0, resp := 0, num := 0, subfield := 0, addr := 1,
                              payload := [7] }).wellFormed = false := by decide
theorem test_wf_accepts : Instr.tick.wellFormed = true ∧ (Instr.seqCmp 0 0 255).wellFormed = true := by decide

/-! ### Decoding: words written out from the spec's encodings (R88 to R103) -/

theorem test_decode_ack : decodeTableWord 64 0x0501C0050001D054 =
    some (.ack { flags := 3, subfield := 0, resp := 5, num := 0, addr := 1, hcrc := 0x54D0 }) := by decide +kernel
theorem test_decode_nak : decodeTableWord 64 0x050202050001A9EC =
    some (.nak { flags := 0, subfield := 2, resp := 5, num := 0, addr := 1, hcrc := 0xECA9 }) := by decide +kernel
theorem test_decode_rep : decodeTableWord 64 0x05030000070187A5 =
    some (.rep { flags := 0, subfield := 0, resp := 0, num := 7, addr := 1, hcrc := 0xA587 }) := by decide +kernel
theorem test_decode_strt : decodeTableWord 64 0x0506C00000017595 =
    some (.strt { flags := 3, subfield := 0, resp := 0, num := 0, addr := 1, hcrc := 0x9575 }) := by decide +kernel
theorem test_decode_stack : decodeTableWord 64 0x0507000000017455 =
    some (.stack { flags := 0, subfield := 0, resp := 0, num := 0, addr := 1, hcrc := 0x5574 }) := by decide +kernel
/-- Count 0x012C, SELECT set: byte 2 is 0x81 (95_test_vectors.md section 3.2); the operand bytes are zeros. -/
theorem test_decode_data : decodeTableWord 64 0x812C81C7C8018016 =
    some (.data { flags := 2, count := 300, resp := 199, num := 200, addr := 1, hcrc := 0x1680 } (List.replicate 300 0) 0) := by
  decide +kernel
theorem test_decode_maint : decode [0x90, 0x02, 0xC0, 0x00, 0x00, 0x01, 0x99, 0x50, 0x58, 0x59, 0xFB, 0xFA] =
    .instr (.maint { flags := 3, count := 2, resp := 0, num := 0, addr := 1, hcrc := 0x5099 } [0x58, 0x59] 0xFAFB) [] := by
  decide +kernel
/-- The largest count, and the flags above it (R83, R84). -/
theorem test_count_and_flags : (countOf 0xFF 0xFF).toNat = 16383 ∧ flagsOf 0x40 = 1 ∧ low6Of 0xD1 = 17 := by decide +kernel
theorem test_decode_rejects :
    decode [0x05, 0x01, 0x00, 0x05, 0x00, 0x01, 0xEC] = .reject .tooShort ∧ decode [] = .reject .tooShort ∧
    decode [0x82, 0x01, 0x00, 0x05, 0x00, 0x01, 0x00, 0x00] = .reject .badType ∧
    decode [0x05, 0x04, 0x00, 0x00, 0x00, 0x01, 0x30, 0x55] = .reject .badSubtype ∧
    decode [0x81, 0x03, 0x00, 0x00, 0x06, 0x01, 0x98, 0x71, 0x41, 0x42, 0x43, 0x21] = .reject .truncated := by decide +kernel
/-- Bytes after the frame's own length are handed back (R99). -/
theorem test_decode_surplus : decode [0x05, 0x07, 0x00, 0x00, 0x00, 0x01, 0x74, 0x55, 0xAA] =
    .instr (.stack { flags := 0, subfield := 0, resp := 0, num := 0, addr := 1, hcrc := 0x5574 }) [0xAA] := by decide +kernel

/-! ### The codec -/

theorem test_crc16 : crc16 0 [0x31, 0x32, 0x33, 0x34, 0x35, 0x36, 0x37, 0x38, 0x39] = 0xBB3D ∧ crc16 0 [0x01] = 0xC0C1 ∧
    crc16 0xFFFF [0x31, 0x32, 0x33, 0x34, 0x35, 0x36, 0x37, 0x38, 0x39] = 0x4B37 := by decide +kernel
theorem test_crc16_residue : crc16 0 [0x41, 0x42, 0x43, 0x21, 0x45] = 0 ∧ crc16 0 [0x41, 0x42, 0x43, 0x45, 0x21] = 0x2B2B := by
  decide +kernel
theorem test_build_data : buildData [0x41, 0x42, 0x43] 3 0 6 0 =
    [0x81, 0x03, 0x00, 0x00, 0x06, 0x01, 0x98, 0x71, 0x41, 0x42, 0x43, 0x21, 0x45] := by decide +kernel
theorem test_build_data_split_count : (buildData (List.replicate 300 0x55) 300 2 200 199).take 8 =
    [0x81, 0x2C, 0x81, 0xC7, 0xC8, 0x01, 0x80, 0x16] := by decide +kernel
theorem test_build_ack : buildAck 5 3 = [0x05, 0x01, 0xC0, 0x05, 0x00, 0x01, 0xD0, 0x54] := by decide +kernel
theorem test_build_nak : buildNak 17 5 0 = [0x05, 0x02, 0x11, 0x05, 0x00, 0x01, 0xAD, 0x68] := by decide +kernel
theorem test_build_rep : buildRep 1 0 = [0x05, 0x03, 0x00, 0x00, 0x01, 0x01, 0x84, 0x05] := by decide +kernel
theorem test_build_start : buildStart 0 = [0x05, 0x06, 0x00, 0x00, 0x00, 0x01, 0x49, 0x95] := by decide +kernel
theorem test_build_start_ack : buildStartAck 3 = [0x05, 0x07, 0xC0, 0x00, 0x00, 0x01, 0x48, 0x55] := by decide +kernel
theorem test_maint_frame : maintFrame [0x58, 0x59] 2 =
    [0x90, 0x02, 0xC0, 0x00, 0x00, 0x01, 0x99, 0x50, 0x58, 0x59, 0xFB, 0xFA] := by decide +kernel
/-- Header CRC before sub-type and before data CRC (95_test_vectors.md section 3.3). -/
theorem test_parse_order : parse [0x05, 0x09, 0x00, 0x04, 0x00, 0x01, 0xEC, 0x54] = .messageError .headerCRC ∧
    parse [0x05, 0x00, 0x00, 0x00, 0x00, 0x01, 0xC1, 0x95] = .messageError .badSubtype := by decide +kernel
theorem test_parse_empty_payload : parse [0x81, 0x00, 0x00, 0x00, 0x01, 0x01, 0xDE, 0x41, 0x00, 0x00] =
    .packet { cls := .data, count := 0, flags := 0, resp := 0, num := 1, subfield := 0, addr := 1, payload := [] } := by
  decide +kernel

/-! ### Sequence arithmetic, queues, timer -/

theorem test_seq_cmp : seqCmp 5 14 8 = 1 ∧ seqCmp 14 5 8 = -1 ∧ seqCmp 250 2 8 = -1 ∧ seqCmp 0 127 127 = -1 ∧
    seqCmp 0 128 127 = 1 ∧ seqCmp 200 73 127 = 1 := by decide +kernel
theorem test_inc : inc 255 = 0 ∧ add 250 10 = 4 := by decide
/-- V-Q1: after eight allocations the ninth raises Fatal. -/
theorem test_alloc_exhausted : (after (exec (.alloc .receive) (noneFree State.reset))).map
    (fun t => (t.latch.fatal, t.pool.completion.map (·.code), t.env.dump.map (·.cause))) =
    some (true, [.fatal], some .poolExhausted) := by decide +kernel
theorem test_release : (after (exec (.release 0) { State.reset with pool.free := [3] })).map (·.pool.free) = some [3, 0] := by
  decide +kernel
/-- V-Q2. -/
theorem test_requeue : (after (exec .requeueAckWait { threeSent with pool.transmit := [7] })).map
    (fun t => (t.pool.transmit, t.pool.ackWait, (descOf t 2).seq, (descOf t 4).seq)) = some ([2, 3, 4, 7], [], 0, 0) := by
  decide +kernel
theorem test_find_seq : findSeq threeSent 11 = some 3 ∧ findSeq threeSent 14 = none := by decide +kernel
/-- V-Q4. -/
theorem test_notify_coalesces : ((after (exec (.notify .disconnect) State.reset)).bind fun s =>
    (after (exec (.notify .disconnect) s)).map (·.pool.completion.length)) = some 1 := by decide +kernel
/-- V-T1. -/
theorem test_timer_expires : (after (ticks 3 (startTimer State.reset))).map (·.timer) =
    some { running := false, remaining := 0 } := by decide +kernel

/-! ### Steps through the dispatcher (95_test_vectors.md section 3.7) -/

/-- V-D1: delivered, acknowledged on the wire, SACK clear again. -/
theorem test_data_in_order :
    (after (exec (.onReceive [0x81, 0x03, 0x00, 0x00, 0x06, 0x01, 0x98, 0x71, 0x41, 0x42, 0x43, 0x21, 0x45])
      (oneReceive 16 { sync 4 (linkIn .run) with link.r := 5 }))).map
      (fun t => (t.link.r, t.link.sack, t.env.wire, memReadBytes t.env.mem 99 5)) =
    some (6, false, [[0x05, 0x01, 0x00, 0x06, 0x00, 0x01, 0x1C, 0x54]], [0, 0x41, 0x42, 0x43, 0]) := by
  decide +kernel
/-- V-D1b. -/
theorem test_data_transmitter_busy :
    (after (exec (.onReceive [0x81, 0x03, 0x00, 0x00, 0x06, 0x01, 0x98, 0x71, 0x41, 0x42, 0x43, 0x21, 0x45])
      (oneReceive 16 (busy { linkIn .run with link.r := 5 })))).map (fun t => (t.link.sack, t.env.wire)) = some (true, []) := by
  decide +kernel
/-- V-D2. -/
theorem test_gap :
    (after (exec (.onReceive [0x81, 0x03, 0x00, 0x00, 0x08, 0x01, 0x9C, 0x11, 0x41, 0x42, 0x43, 0x21, 0x45])
      (oneReceive 16 { sync 4 (linkIn .run) with link.r := 5 }))).map (fun t => (t.link.r, t.env.wire, t.pool.receive)) =
    some (5, [[0x05, 0x02, 0x02, 0x05, 0x00, 0x01, 0xA9, 0xEC], [0x05, 0x02, 0x02, 0x06, 0x00, 0x01, 0x59, 0xEC],
      [0x05, 0x02, 0x02, 0x07, 0x00, 0x01, 0x08, 0x2C]], [2]) := by decide +kernel
/-- V-D3. -/
theorem test_data_crc_wrong :
    (after (exec (.onReceive [0x81, 0x03, 0x00, 0x00, 0x06, 0x01, 0x98, 0x71, 0x41, 0x43, 0x43, 0x21, 0x45])
      (oneReceive 16 { sync 4 (linkIn .run) with link.r := 5 }))).map (fun t => (t.link.nakReason, t.link.snak, t.env.wire)) =
    some (2, false, [[0x05, 0x02, 0x02, 0x05, 0x00, 0x01, 0xA9, 0xEC]]) := by decide +kernel
/-- V-D5. -/
theorem test_ack_completes :
    (after (exec (.ack { flags := 0, subfield := 0, resp := 11, num := 0, addr := 1, hcrc := 0x978D }) threeSent)).map
      (fun t => (t.link.a, t.pool.ackWait, t.timer.running, t.pool.completion)) =
    some (11, [4], true, [{ buffer := some 2, actualLength := 3, code := .txBufferComplete },
      { buffer := some 3, actualLength := 3, code := .txBufferComplete }]) := by decide +kernel
/-- V-D6. -/
theorem test_halt_from_maintenance :
    (after (exec .userHalt (startTimer (linkIn .maintenance)))).map (fun t => (t.link.state, t.timer.running)) =
    some (.halt, false) := by decide +kernel
/-- V-D7. -/
theorem test_stack_in_astart :
    (after (exec (.stack { flags := 0, subfield := 0, resp := 0, num := 0, addr := 1, hcrc := 0x5574 })
      (startTimer (linkIn .aStart)))).map (fun t => (t.link.state, t.timer.running, t.env.wire)) =
    some (.run, false, []) := by decide +kernel
/-- V-D9. -/
theorem test_buffer_too_short :
    (after (exec (.onReceive [0x81, 0x03, 0x00, 0x00, 0x06, 0x01, 0x98, 0x71, 0x41, 0x42, 0x43, 0x21, 0x45])
      (oneReceive 2 { sync 4 (linkIn .run) with link.r := 5 }))).map (fun t => (t.link.nakReason, t.pool.receive, t.env.wire)) =
    some (16, [2], [[0x05, 0x02, 0x10, 0x05, 0x00, 0x01, 0xAC, 0x94]]) := by decide +kernel
/-- V-D10, its second half. -/
theorem test_rep_mismatch :
    (after (exec (.rep { flags := 0, subfield := 0, resp := 0, num := 7, addr := 1, hcrc := 0xA587 })
      { sync 4 (linkIn .run) with link.r := 5 })).map (fun t => (t.link.nakReason, t.env.wire)) =
    some (3, [[0x05, 0x02, 0x03, 0x05, 0x00, 0x01, 0xA8, 0x10]]) := by decide +kernel
/-- V-D13. -/
theorem test_startup_line_down : (after (exec .userStartup State.reset)).map (·.link.state) = some .halt := by decide +kernel
/-- Program P1, the first half: STRT is sent and the timer started. -/
theorem test_startup :
    (after (exec .userStartup (sync 4 (linkIn .halt)))).map (fun t => (t.link.state, t.timer.running, t.env.wire, t.link.t)) =
    some (.iStart, true, [[0x05, 0x06, 0x00, 0x00, 0x00, 0x01, 0x49, 0x95]], 1) := by decide +kernel
/-- V-D14. -/
theorem test_strt_in_run :
    (after (exec (.strt { flags := 0, subfield := 0, resp := 0, num := 0, addr := 1, hcrc := 0x9549 }) threeSent)).map
      (fun t => (t.link.state, t.latch.startRcvd, t.pool.transmit, t.pool.completion.map (·.code))) =
    some (.halt, true, [2, 3, 4], [.startReceived]) := by decide +kernel
/-- V-D16, its second half: a NAK after a kill. -/
theorem test_nak_after_kill :
    (after (exec (.nak { flags := 0, subfield := 2, resp := 0, num := 0, addr := 1, hcrc := 0xEDB9 })
      { linkIn .run with link := { (linkIn .run).link with n := 2, t := 3, x := 2 } })).map
      (fun t => (t.latch.fatal, t.link.state, t.env.dump.map (·.cause))) =
    some (true, .halt, some .missingRetransmitBuffer) := by decide +kernel
/-- R302 with R287: a message enqueued in Run leaves at once, numbered 1. -/
theorem test_enqueue_in_run :
    (after (exec (.enqueueTransmitBuffer 100 3 true)
      { sync 4 (linkIn .run) with env.mem := [(100, 0x41), (101, 0x42), (102, 0x43)] })).map
      (fun t => (t.env.wire, t.link.n, t.link.t, t.link.x, t.pool.ackWait)) =
    some ([[0x81, 0x03, 0x00, 0x00, 0x01, 0x01, 0x9A, 0x41, 0x41, 0x42, 0x43, 0x21, 0x45]], 1, 2, 1, [0]) := by decide +kernel
/-- R265: in Maintenance it leaves as a maintenance message. -/
theorem test_enqueue_in_maintenance :
    (after (exec (.enqueueTransmitBuffer 100 2 true)
      { sync 4 (linkIn .maintenance) with env.mem := [(100, 0x58), (101, 0x59)] })).map
      (fun t => (t.env.wire, t.pool.completion.map (·.code))) =
    some ([[0x90, 0x02, 0xC0, 0x00, 0x00, 0x01, 0x99, 0x50, 0x58, 0x59, 0xFB, 0xFA]], [.txBufferComplete]) := by decide +kernel
/-- U16. -/
theorem test_buffer_too_long : (after (exec (.assignReceiveBuffer 0 16384) State.reset)).map (·.env.reply) = some .refused ∧
    (after (exec (.assignReceiveBuffer 0 16383) State.reset)).map (·.env.reply) = some (.handle 0) := by decide +kernel

/-! ### Steps from reset -/

/-- A frame placed as the next stimulus is received: in Halt it is kept in `rx_pkt` and dropped (R289). -/
theorem test_step_ack : (after (step (State.reset.withFetchWord 64 0x050100050001EC54))).map (fun t => (t.tx.rxPkt, t.link)) =
    some (some (.packet { cls := .ack, count := 0, flags := 0, resp := 5, num := 0, subfield := 0, addr := 1, payload := [] }),
      State.reset.link) := by decide +kernel
/-- A maintenance message moves the link to Maintenance (R264); count 0, data CRC 00 00. -/
theorem test_step_maint : (after (step { State.reset with env.input := [.frame (maintFrame [] 0)] })).map (·.link.state) =
    some .maintenance := by decide +kernel
theorem test_step_call : (after (step { State.reset with env.input := [.call (.onLineStatusChange true)] })).map
    (fun t => (t.link.lineConnected, t.env.input)) = some (true, []) := by decide +kernel
/-- The outside has no right to a link variable (R353). -/
theorem test_step_not_offered : step { State.reset with env.input := [.call .setSACK] } = .refused .notOffered := rfl
/-- "`tx_fifo` is frozen" while fatal (R346). -/
theorem test_fatal_freezes_staging :
    let s := { raiseFatal .poolExhausted State.reset with
      tx.fifo := [{ bytes := [1], kind := .data, num := 3, desc := none }] }
    after (exec .resetVariables s) = some s ∧ after (exec .sendAck s) = some s := by decide +kernel
/-- The loop-back of R378: two packets that arrive inside one send, while a dispatch runs, are one event, and the first is
lost. -/
theorem test_loop_back_merges :
    (after (exec .txKick { enterDispatch (linkIn .run) with
      tx.fifo := [{ bytes := [1], kind := .data, num := 3, desc := none }]
      env.answers := [.acceptedReceiving [buildAck 1 0, buildAck 2 0] false] })).map
      (fun t => (t.tx.rxPkt, t.disp.pending, t.tx.inflight.map (·.num))) =
    some (some (.packet { cls := .ack, count := 0, flags := 0, resp := 2, num := 0, subfield := 0, addr := 1, payload := [] }),
      { noEvents with packetReceived := true }, some 3) := by decide +kernel
theorem test_step_idle : after (step State.reset) = some State.reset := by decide +kernel

/-! ### Witnesses: for each statement with hypotheses, a state and operands that meet them, clause by clause -/

theorem witness_DecodeInvertsEncode :
    let i : Instr := .data { flags := 3, count := 2, resp := 9, num := 8, addr := 1, hcrc := 0x1234 } [1, 2] 0x5678
    i.wellFormed = true ∧
    encode i = some [0x81, 0x02, 0xC0, 0x09, 0x08, 0x01, 0x34, 0x12, 0x01, 0x02, 0x78, 0x56] := by decide +kernel

theorem witness_DecodedBytesAreTheEncoding : decode [0x05, 0x07, 0x00, 0x00, 0x00, 0x01, 0x74, 0x55, 0xAA] =
    .instr (.stack { flags := 0, subfield := 0, resp := 0, num := 0, addr := 1, hcrc := 0x5574 }) [0xAA] := by decide +kernel

theorem witness_BuiltFramesParseBack : ([] : List Byte).length = (0 : BitVec 14).toNat ∧
    (List.replicate 16383 (0 : Byte)).length = (16383 : BitVec 14).toNat := by
  constructor
  · rfl
  · rw [List.length_replicate]; rfl

/-- Each check failing and each passing: too short at 7 bytes, a bad type, a wrong header CRC, each sub-type and an unlisted
one with a right header CRC, a body too short, a wrong data CRC, a right one with count 0 and with count 3. -/
theorem witness_ParseChecksInOrder :
    ([0x05, 0x01, 0x00, 0x05, 0x00, 0x01, 0xEC] : List Byte).length < 8 ∧
    ((0x82 : Byte) ≠ 0x81 ∧ (0x82 : Byte) ≠ 0x05 ∧ (0x82 : Byte) ≠ 0x90) ∧
    crc16 0 [0x05, 0x01, 0x00, 0x04, 0x00, 0x01, 0xEC, 0x54] ≠ 0 ∧
    crc16 0 [0x05, 0x01, 0x00, 0x05, 0x00, 0x01, 0xEC, 0x54] = 0 ∧
    crc16 0 [0x05, 0x02, 0x02, 0x05, 0x00, 0x01, 0xA9, 0xEC] = 0 ∧
    crc16 0 [0x05, 0x03, 0x00, 0x00, 0x07, 0x01, 0x87, 0xA5] = 0 ∧
    crc16 0 [0x05, 0x06, 0x00, 0x00, 0x00, 0x01, 0x49, 0x95] = 0 ∧
    crc16 0 [0x05, 0x07, 0x00, 0x00, 0x00, 0x01, 0x74, 0x55] = 0 ∧
    crc16 0 [0x05, 0x04, 0x00, 0x00, 0x00, 0x01, 0x30, 0x55] = 0 ∧
    crc16 0 [0x81, 0x03, 0x00, 0x00, 0x06, 0x01, 0x98, 0x71] = 0 ∧ ([0x41, 0x42, 0x43, 0x21] : List Byte).length < 3 + 2 ∧
    crc16 0 [0x41, 0x43, 0x43, 0x21, 0x45] ≠ 0 ∧ crc16 0 [0x41, 0x42, 0x43, 0x21, 0x45] = 0 ∧
    crc16 0 [0x81, 0x00, 0x00, 0x00, 0x01, 0x01, 0xDE, 0x41] = 0 ∧ crc16 0 [0x00, 0x00] = 0 := by decide +kernel

theorem witness_CrcChainsIsLinearAndLeavesNoResidue : ([0x41, 0x42] : List Byte).length = ([0x58, 0x59] : List Byte).length := by decide

/-- Distances 1, W and 256-W at W = 127; W+1 and 255-W at W = 8; and W = 128. -/
theorem witness_SequenceComparatorProperties :
    (1 ≤ ((0 : Byte) - 255).toNat ∧ ((0 : Byte) - 255).toNat ≤ 127) ∧
    (1 ≤ ((127 : Byte) - 0).toNat ∧ ((127 : Byte) - 0).toNat ≤ 127) ∧ 256 - 127 ≤ ((129 : Byte) - 0).toNat ∧
    (8 < ((9 : Byte) - 0).toNat ∧ ((9 : Byte) - 0).toNat < 256 - 8) ∧
    (8 < ((247 : Byte) - 0).toNat ∧ ((247 : Byte) - 0).toNat < 256 - 8) ∧ 128 ≤ 128 := by decide +kernel

theorem witness_EnqueueAndPushFrontWithinCapacity :
    7 < State.reset.cfg.window ∧ (handles State.reset.pool .free).length = State.reset.cfg.window ∧
    (handles State.reset.pool .ackWait).length ≠ State.reset.cfg.window ∧
    (∀ h ∈ ({ buffer := none, actualLength := 0, code := .fatal } : Completion).buffer, h < State.reset.cfg.window) ∧
    fullCompletion.length = State.reset.cfg.window + 4 ∧ State.reset.pool.completion.length ≠ State.reset.cfg.window + 4 := by
  refine ⟨by decide, by decide, by decide, (fun h hh => by cases hh), by decide, by decide⟩

theorem witness_DequeueHeadCountAndFindSeqAnswer :
    handles State.reset.pool .receive = [] ∧ handles threeSent.pool .ackWait = 2 :: [3, 4] ∧
    State.reset.pool.completion = [] ∧
    fullCompletion = { buffer := some 0, actualLength := 0, code := .rxBufferKilled } :: fullCompletion.tail ∧
    threeSent.pool.ackWait = [2] ++ 3 :: [4] ∧ (descOf threeSent 3).seq = 11 ∧
    (∀ k ∈ [2], (descOf threeSent k).seq ≠ 11) ∧ ∀ k ∈ threeSent.pool.ackWait, (descOf threeSent k).seq ≠ 14 := by
  decide +kernel

theorem witness_AllocTakesTheHeadOrRaisesFatal : State.reset.pool.free = 0 :: [1, 2, 3, 4, 5, 6, 7] ∧ (noneFree State.reset).pool.free = [] ∧
    (noneFree State.reset).pool.completion.length ≠ (noneFree State.reset).cfg.window + 4 := by decide +kernel

theorem witness_ReleaseAndNotificationsAppend :
    (7 < State.reset.cfg.window ∧ (oneReceive 5 State.reset).pool.free.length ≠ State.reset.cfg.window) ∧
    EventCode.fatal.isEvent = true ∧
    (∃ r ∈ [({ buffer := none, actualLength := 0, code := .fatal } : Completion)], r.buffer = none ∧ r.code = .fatal) ∧
    (∀ r ∈ State.reset.pool.completion, r.buffer = none → r.code ≠ .fatal) ∧
    State.reset.pool.completion.length ≠ State.reset.cfg.window + 4 := by decide +kernel

theorem witness_RequeueAckWaitRestoresTheOrder : threeSent.pool.ackWait.length + threeSent.pool.transmit.length ≤ threeSent.cfg.window ∧
    threeSent.pool.ackWait ≠ [] := by decide +kernel

theorem witness_ModelChoicesOutsideTheRules : State.reset.cfg.window ≤ 8 ∧
    ({ bytes := [], kind := .control, num := 0, desc := some 8 } : TxItem).desc = some 8 ∧ State.reset.pool.transmit = [] := by
  decide +kernel

/-- A fatal link; a kick that answers, with the timer stopped, at 2 and at 1; nothing to send; and a busy link in Run. -/
theorem witness_TimerStartsStopsAndTicks :
    let run := busy (linkIn .run)
    let on := fun n => { run with timer := { running := true, remaining := n } }
    (raiseFatal .poolExhausted State.reset).latch.fatal = true ∧
    after (exec .txKick run) = some run ∧ run.timer.running = false ∧ run.latch.fatal = false ∧
    after (exec .txKick (on 2)) = some (on 2) ∧ after (exec .txKick (on 1)) = some (on 1) ∧
    run.tx.inflight ≠ none ∧ State.reset.tx.fifo = [] ∧ (on 1).disp = restingDispatcher ∧ (on 1).link.state = .run ∧
    (on 1).link.lineConnected = true := by decide +kernel

theorem witness_TimerExpiresOnTheConfiguredTick : State.reset.latch.fatal = false ∧ State.reset.tx.fifo = [] ∧
    1 ≤ State.reset.cfg.pktTimeout ∧ 2 < State.reset.cfg.pktTimeout := by decide +kernel

theorem witness_DispatchGuardPostsAndPendingIsTakenByPriority : (raiseFatal .poolExhausted State.reset).latch.fatal = true ∧
    (enterDispatch State.reset).latch.fatal = false ∧ (enterDispatch State.reset).disp.scanning = true := by decide +kernel

/-- A scan that fires, one that does not; actions that run to their end, and actions that Fatal ends. -/
theorem witness_ScanFiresTheFirstMatchingRule :
    (scan (some .userHalt) State.reset).isSome = true ∧ scan none State.reset = none ∧
    (∃ s1, runActions (dr00.actions none) State.reset = .go s1) ∧
    ∃ s1, runActions ((dr06 kickInDispatch).actions none) (noneFree State.reset) = .ended s1 :=
  ⟨by decide +kernel, by decide +kernel, ⟨_, rfl⟩, ⟨_, rfl⟩⟩

theorem witness_DispatchFollowsTheLoop_and_DispatchCompletesQuiescent : State.reset.latch.fatal = false ∧ State.reset.disp.scanning = false ∧
    (after (exec (.dispatch .userHalt) State.reset)).isSome = true := by decide +kernel

theorem witness_HostBuffersAcceptedOrRefused :
    (Ready State.reset ∧ Quiescent State.reset) ∧ State.reset.latch.rxAccept = true ∧ State.reset.latch.txAccept = true ∧
    16383 ≤ 16383 ∧ 16383 < 16384 ∧ Ready (noneFree State.reset) ∧ (noneFree State.reset).pool.free = [] ∧
    (noneFree State.reset).pool.completion.length ≠ State.reset.cfg.window + 4 ∧
    State.reset.pool.free = 0 :: [1, 2, 3, 4, 5, 6, 7] ∧ State.reset.pool.receive.length ≠ State.reset.cfg.window ∧
    State.reset.pool.transmit.length ≠ State.reset.cfg.window ∧ State.reset.link.state ≠ .run ∧
    State.reset.link.state ≠ .maintenance ∧ Ready (busy (linkIn .run)) ∧ Quiescent (busy (linkIn .run)) ∧
    (busy (linkIn .run)).tx.inflight ≠ none := by
  dsimp only [Ready, AtRest, Quiescent]; decide +kernel

theorem witness_RunSendsANewMessageAtOnce :
    let s := later (linkIn .run)
    Ready s ∧ s.link.state = .run ∧ s.link.lineConnected = true ∧ s.link.snak = false ∧ s.link.srep = false ∧
    s.link.t = s.link.n + 1 ∧ s.latch.txAccept = true ∧ 16383 ≤ 16383 ∧ s.pool.free = 0 :: [1, 2, 3, 4, 5, 6, 7] ∧
    0 < s.pool.desc.length ∧ s.pool.transmit = [] ∧ 1 ≤ s.cfg.window ∧ s.pool.ackWait.length < s.cfg.window ∧
    s.tx.inflight = none ∧ s.tx.fifo = [] ∧ s.cfg.corruptPermille = 0 ∧ s.env.answers = .acceptedLater :: [] := by
  dsimp only [Ready, AtRest]; decide +kernel

theorem witness_KillsReturnTheBuffers :
    (raiseFatal .poolExhausted State.reset).latch.fatal = true ∧
    (Ready threeSent ∧ Quiescent threeSent) ∧
    threeSent.pool.completion.length + threeSent.pool.receive.length ≤ threeSent.cfg.window + 4 ∧
    threeSent.pool.completion.length + threeSent.pool.ackWait.length + threeSent.pool.transmit.length
      ≤ threeSent.cfg.window + 4 := by
  dsimp only [Ready, AtRest, Quiescent]; decide +kernel

/-- A record without a buffer, one with, and no record; a fatal link and one that is not. -/
theorem witness_PickupAndLineEnable :
    let note : Completion := { buffer := none, actualLength := 0, code := .fatal }
    let full : Completion := { buffer := some 2, actualLength := 3, code := .rxBufferComplete }
    (raiseFatal .poolExhausted State.reset).latch.fatal = true ∧ State.reset.latch.fatal = false ∧
    State.reset.pool.completion = [] ∧ (raiseFatal .poolExhausted State.reset).pool.completion = note :: [] ∧
    note.buffer = none ∧ full.buffer = some 2 ∧
    (oneReceive 5 State.reset).pool.free.length ≠ State.reset.cfg.window := by decide +kernel

/-- A ready link with nothing to send in Maintenance, and one with a frame in flight. -/
theorem witness_UserHaltAndMaintenanceAlwaysEnter : Ready State.reset ∧ State.reset.pool.transmit = [] ∧ Ready (busy (linkIn .run)) ∧
    (busy (linkIn .run)).tx.inflight ≠ none := by
  dsimp only [Ready, AtRest]; decide +kernel

theorem witness_UserStartupStartsTheLink :
    (Ready State.reset ∧ Quiescent State.reset ∧ State.reset.link.lineConnected = false) ∧
    (Ready threeSent ∧ Quiescent threeSent ∧ threeSent.link.state ≠ .halt) ∧
    let s := later (linkIn .halt)
    Ready s ∧ s.link.state = .halt ∧ s.link.lineConnected = true ∧
    s.pool.ackWait.length + s.pool.transmit.length ≤ s.cfg.window ∧
    s.pool.free.length + (s.tx.fifo.filterMap (·.desc)).length ≤ s.cfg.window ∧
    s.pool.free ++ s.tx.fifo.filterMap (·.desc) = 0 :: [1, 2, 3, 4, 5, 6, 7] ∧ s.tx.inflight = none ∧
    s.cfg.corruptPermille = 0 ∧ s.env.answers = .acceptedLater :: [] ∧ (busy s).tx.inflight ≠ none := by
  dsimp only [Ready, AtRest, Quiescent]; decide +kernel

/-- Each case of `Sends`: a frame in flight; and, with a frame staged, each answer of the transport, the last one inside a
dispatch. -/
theorem witness_Sends :
    let item : TxItem := { bytes := [1, 2], kind := .data, num := 1, desc := none }
    let staged := fun a => { enterDispatch (linkIn .run) with
      tx.fifo := [item], pool.free := [3], env.answers := [a] }
    (busy (linkIn .run)).tx.inflight ≠ none ∧ (staged .refused).tx.inflight = none ∧
    (staged .refused).tx.fifo = item :: [] ∧ (offerFrame item.bytes (staged .refused)).1 = .refused ∧
    (offerFrame item.bytes (staged .acceptedLater)).1 = .acceptedLater ∧
    (offerFrame item.bytes (staged .acceptedNow)).1 = .acceptedNow ∧ (staged .acceptedNow).disp.scanning = true ∧
    (staged .acceptedNow).latch.fatal = false ∧ (staged .acceptedNow).pool.free.length ≠ State.reset.cfg.window := by
  decide +kernel

theorem witness_TransmitterStagesAndKicks : State.reset.latch.fatal = false ∧ State.reset.tx.fifo = [] ∧ 7 < State.reset.cfg.window := by
  decide

theorem witness_TransmitCompleteLandsTheFrame :
    let item : TxItem := { bytes := [1], kind := .data, num := 3, desc := none }
    let run := later (busy { linkIn .run with tx.fifo := [item] })
    (State.reset.tx.inflight = none ∧ State.reset.latch.fatal = false) ∧ (busy State.reset).tx.inflight = some item ∧
    ((enterDispatch (busy State.reset)).disp.scanning = true ∧ (busy State.reset).tx.fifo = []) ∧
    ((busy State.reset).disp = restingDispatcher ∧ (busy State.reset).link.state = .halt) ∧
    (after (exec (.dispatch .transmitDone) { busy State.reset with
      tx := { (busy State.reset).tx with inflight := none, doneKind := item.kind, doneNum := item.num } })).isSome = true ∧
    run.disp = restingDispatcher ∧ run.link.state = .run ∧ run.link.lineConnected = true ∧ item.kind = .data ∧
    item.desc = none ∧ run.tx.fifo = item :: [] ∧ run.cfg.corruptPermille = 0 ∧ run.env.answers = .acceptedLater :: [] := by
  decide +kernel

/-- Ownership does not depend on the transport's answers. -/
theorem owned_offering (a : SendAnswer) : Owned (offering a) := by
  have h : Owned (offering .refused) := by
    refine ⟨by decide +kernel, by decide +kernel, by decide +kernel, ?_, by decide +kernel, by decide +kernel,
      by decide +kernel, by decide +kernel, by decide +kernel⟩
    intro i hi k hk
    have e : i = dataItem := List.mem_singleton.mp hi
    subst e
    cases hk
  exact ⟨h.table, h.once, h.items, h.controlKind, h.receiveKind, h.transmitKind, h.ackWaitKind, h.eventsOnce, h.eventsCoded⟩

/-- At W = 8, the window of the test vectors; the range goes from 2 to 126. -/
theorem witness_NoInstructionOverruns : Owned (offering .acceptedNow) ∧ (offering .acceptedNow).cfg.InRange ∧
    ({ Config.atReset with qdepth := 1 } : Config).InRange ∧ ({ Config.atReset with qdepth := 63 } : Config).InRange :=
  ⟨owned_offering _, by decide, by decide, by decide⟩

theorem witness_SynchronousSendIsSendThenComplete :
    let s := offering .acceptedNow
    Owned s ∧ s.cfg.InRange ∧ s.latch.fatal = false ∧ s.tx.inflight = none ∧ s.tx.fifo = dataItem :: [] ∧
    (offerFrame dataItem.bytes s).1 = .acceptedNow :=
  ⟨owned_offering _, by decide, by decide, by decide, by decide, by decide +kernel⟩

/-- Listed answers and choices, none listed, the policy on and off. -/
theorem witness_TransportAndCorruptionPolicy :
    (later State.reset).env.answers = .acceptedLater :: [] ∧ State.reset.env.answers = [] ∧
    State.reset.cfg.corruptPermille = 0 ∧
    ({ State.reset.cfg with corruptPermille := 999 } : Config).corruptPermille ≠ 0 ∧
    (∀ d ∈ [Draw.pass, .drop, .flip [0, 15]], ({ State.reset.env with draws := [d] } : Env).draws = d :: []) ∧
    State.reset.env.draws = [] := by decide +kernel

/-- Each result of `parse` (95_test_vectors.md section 3.3), with the policy off; a link not in Run; and each listed choice. -/
theorem witness_ReceptionFollowsTheParseTable :
    State.reset.latch.fatal = false ∧ State.reset.cfg.corruptPermille = 0 ∧
    parse [0x05, 0x07, 0x00, 0x00, 0x00, 0x01, 0x74, 0x55] =
      .packet { cls := .stack, count := 0, flags := 0, resp := 0, num := 0, subfield := 0, addr := 1, payload := [] } ∧
    parse [0x05, 0x01, 0x00, 0x04, 0x00, 0x01, 0xEC, 0x54] = .messageError .headerCRC ∧
    parse [0x81, 0x03, 0x00, 0x00, 0x06, 0x01, 0x98, 0x71] = .messageError .dataCRC ∧
    parse [] = .messageError .tooShort ∧ parse [0x82, 0x01, 0x00, 0x05, 0x00, 0x01, 0x00, 0x00] = .messageError .badType ∧
    parse [0x05, 0x04, 0x00, 0x00, 0x00, 0x01, 0x30, 0x55] = .messageError .badSubtype ∧
    parse [0x90, 0x02, 0xC0, 0x00, 0x00, 0x01, 0x99, 0x51] = .messageError .headerCRC ∧
    parse [0x90, 0x02, 0xC0, 0x00, 0x00, 0x01, 0x99, 0x50, 0x58, 0x59, 0xFB, 0x00] = .messageError .dataCRC ∧
    (Ready State.reset ∧ Quiescent State.reset ∧ State.reset.link.state = .halt) ∧
    (Ready (linkIn .maintenance) ∧ Quiescent (linkIn .maintenance) ∧ (linkIn .maintenance).link.state ≠ .run) ∧
    ({ State.reset.cfg with corruptPermille := 1 } : Config).corruptPermille ≠ 0 ∧
    (∀ d ∈ [Draw.pass, .drop, .flip [], .flip [0, 63]], ({ State.reset.env with draws := [d] } : Env).draws = d :: []) ∧
    State.reset.env.draws = [] ∧ (encode (.ack default)).isSome = true := by
  dsimp only [Ready, AtRest, Quiescent]; decide +kernel

theorem witness_LineStatusChanges :
    (raiseFatal .poolExhausted State.reset).latch.fatal = true ∧
    (Ready State.reset ∧ Quiescent State.reset ∧ State.reset.link.state ≠ .run) ∧
    (Ready threeSent ∧ Quiescent threeSent ∧ threeSent.link.state = .run) ∧
    threeSent.pool.completion.length ≠ threeSent.cfg.window + 4 ∧
    threeSent.pool.ackWait.length + threeSent.pool.transmit.length ≤ threeSent.cfg.window := by
  dsimp only [Ready, AtRest, Quiescent]; decide +kernel

/-- A fatal link that is halted, an action that answers there, a descriptor of the table, and each kind of record. -/
theorem witness_FatalRefusesEverythingButPickup :
    let s := raiseFatal .poolExhausted State.reset
    let full : Completion := { buffer := some 2, actualLength := 3, code := .rxBufferComplete }
    s.latch.fatal = true ∧ s.link.state = .halt ∧ (encode (.nak default)).isSome = true ∧
    (after (exec .setSACK s)).isSome = true ∧
    (∀ h ∈ ({ bytes := [], kind := .control, num := 0, desc := some 7 } : TxItem).desc, h < State.reset.cfg.window) ∧
    ({ s with pool.completion := [] } : State).pool.completion = [] ∧
    s.pool.completion = { buffer := none, actualLength := 0, code := .fatal } :: [] ∧ full.buffer = some 2 ∧
    (oneReceive 5 s).pool.free.length ≠ s.cfg.window := by
  refine ⟨by decide +kernel, by decide +kernel, by decide +kernel, by decide +kernel, fun h hh => by cases hh; decide,
    by decide +kernel, by decide +kernel, by decide +kernel, by decide +kernel⟩

theorem witness_ResetVariablesFreshensTheLink : threeSent.latch.fatal = false ∧
    threeSent.pool.ackWait.length + threeSent.pool.transmit.length ≤ threeSent.cfg.window ∧
    threeSent.pool.free.length + (threeSent.tx.fifo.filterMap (·.desc)).length ≤ threeSent.cfg.window := by decide +kernel

theorem witness_CompleteAckedTakesThePrefix :
    threeSent.pool.completion.length + threeSent.pool.ackWait.length ≤ threeSent.cfg.window + 4 := by decide +kernel

/-- No buffer; one that is too short by one; one that fits exactly, with room in `completion`. -/
theorem witness_DeliveryActionsFillTheBuffer :
    let p : Packet := { cls := .data, count := 3, flags := 0, resp := 0, num := 6, subfield := 0, addr := 1,
                        payload := [0x41, 0x42, 0x43] }
    p.payload.length = p.count.toNat ∧ State.reset.pool.receive = [] ∧ (oneReceive 2 State.reset).pool.receive = 2 :: [] ∧
    (descOf (oneReceive 2 State.reset) 2).length.toNat < p.count.toNat ∧
    p.count.toNat ≤ (descOf (oneReceive 3 State.reset) 2).length.toNat ∧
    (oneReceive 3 State.reset).pool.completion.length ≠ State.reset.cfg.window + 4 ∧ State.reset.env.mem.wf = true := by
  decide +kernel

theorem witness_DataSendingActionsStageTheirFrames :
    let s := oneTransmit (linkIn .run)
    s.latch.fatal = false ∧ s.pool.transmit = 2 :: [] ∧ s.pool.ackWait.length ≠ s.cfg.window ∧
    s.pool.completion.length ≠ s.cfg.window + 4 ∧
    findSeq { threeSent with link := { threeSent.link with t := 10 } } 10 = some 2 ∧
    (after (exec .txKick (busy threeSent))).isSome = true ∧ findSeq threeSent threeSent.link.t = none ∧
    threeSent.pool.completion.length ≠ threeSent.cfg.window + 4 := by decide +kernel

/-- A free descriptor, none; and for the gap: a frame in flight, a gap that fits, one that does not. -/
theorem witness_ControlActionsStageTheirFrames :
    let s := busy { linkIn .run with link.r := 5 }
    State.reset.latch.fatal = false ∧ s.latch.fatal = false ∧ State.reset.pool.free = 0 :: [1, 2, 3, 4, 5, 6, 7] ∧
    (noneFree State.reset).pool.free = [] ∧ (noneFree State.reset).pool.completion.length ≠ State.reset.cfg.window + 4 ∧
    s.tx.inflight ≠ none ∧ ((13 : Byte) - s.link.r).toNat ≤ s.pool.free.length ∧
    s.pool.free.length < ((14 : Byte) - s.link.r).toNat := by decide +kernel

theorem witness_EntriesThatSendNothing : State.reset.latch.fatal = false ∧
    (scanning .userHalt State.reset).disp.curEvent = some .userHalt ∧
    (scanning .userMaintenanceMode State.reset).disp.curEvent = some .userMaintenanceMode ∧
    (∀ c ∈ [PacketClass.maint, .stack, .ack, .data, .strt],
      (gotClass c 0 0 State.reset).disp.curEvent = some .packetReceived ∧
      receives c (gotClass c 0 0 State.reset).tx.rxPkt = true) ∧
    State.reset.pool.completion.length ≠ State.reset.cfg.window + 4 ∧ (linkIn .iStart).link.state = .iStart ∧
    (linkIn .iStart).timer.running = false ∧ (linkIn .aStart).link.state = .aStart ∧
    ({ State.reset.link with state := .run } : LinkVars).lineConnected = false ∧ threeSent.link.state = .run ∧
    threeSent.pool.ackWait.length + threeSent.pool.transmit.length ≤ threeSent.cfg.window ∧
    (scanning .timerExpired threeSent).disp.curEvent = some .timerExpired ∧
    (scanning .transmitDone threeSent).disp.curEvent = some .transmitDone ∧
    ({ threeSent.tx with doneKind := .data } : Staging).doneKind = .data := by decide +kernel

/-- The entry each packet, and an error, fires: an in-order message, an acknowledgment at its two ends, a NAK at A, a REP that
matches and one that does not, a maintenance message. -/
theorem witness_EntriesThatReadThePacket :
    let w := threeSent.cfg.window
    threeSent.latch.fatal = false ∧ (gotClass .data 1 0 threeSent).disp.curEvent = some .packetReceived ∧
    receives .maint (gotClass .maint 0 0 (linkIn .maintenance)).tx.rxPkt = true ∧
    (linkIn .maintenance).link.state = .maintenance ∧ threeSent.link.state = .run ∧
    (1 : Byte) = threeSent.link.r + 1 ∧ seqLT w threeSent.link.a 10 = true ∧ seqLE w 10 threeSent.link.n = true ∧
    seqLT w threeSent.link.a 12 = true ∧ seqLE w 12 threeSent.link.n = true ∧ seqLE w threeSent.link.a 9 = true ∧
    seqLE w 9 threeSent.link.n = true ∧ threeSent.pool.completion.length + threeSent.pool.ackWait.length ≤ w + 4 ∧
    (0 : Byte) = threeSent.link.r ∧ (7 : Byte) ≠ threeSent.link.r ∧
    ({ threeSent.tx with rxPkt := some (.error 1) } : Staging).rxPkt = some (.error 1) := by decide +kernel

theorem witness_EntriesThatSendControlFrames :
    (linkIn .iStart).latch.fatal = false ∧ (linkIn .iStart).link.state = .iStart ∧ (scanning .timerExpired (linkIn .iStart)).disp.curEvent = some .timerExpired ∧
    receives .strt (gotClass .strt 0 0 (linkIn .iStart)).tx.rxPkt = true ∧ (linkIn .aStart).link.state = .aStart ∧
    (linkIn .run).link.state = .run ∧ (linkIn .run).tx.inflight = none ∧ (linkIn .run).tx.fifo = [] ∧
    (setSNAK 8 (linkIn .run)).link.snak = true ∧ (setSREP (linkIn .run)).link.srep = true ∧
    (setSREP (linkIn .run)).link.snak = false ∧ (setSACK (linkIn .run)).link.sack = true ∧
    (setSACK (linkIn .run)).link.t = (setSACK (linkIn .run)).link.n + 1 ∧
    (linkIn .run).pool.free = 0 :: [1, 2, 3, 4, 5, 6, 7] ∧ (noneFree (linkIn .run)).pool.free = [] ∧
    (noneFree (linkIn .run)).pool.completion.length ≠ State.reset.cfg.window + 4 ∧
    (linkIn .halt).link.state = .halt ∧ (scanning .userStartup (linkIn .halt)).disp.curEvent = some .userStartup ∧
    (linkIn .halt).link.lineConnected = true ∧
    (linkIn .halt).pool.ackWait.length + (linkIn .halt).pool.transmit.length ≤ State.reset.cfg.window ∧
    (linkIn .halt).pool.free.length + ((linkIn .halt).tx.fifo.filterMap (·.desc)).length ≤ State.reset.cfg.window ∧
    (linkIn .halt).pool.free ++ (linkIn .halt).tx.fifo.filterMap (·.desc) = 0 :: [1, 2, 3, 4, 5, 6, 7] ∧
    (noneFree (linkIn .halt)).pool.free ++ (noneFree (linkIn .halt)).tx.fifo.filterMap (·.desc) = [] ∧
    seqGT 8 2 ((linkIn .run).link.r + 1) = true ∧ (busy (linkIn .run)).tx.inflight ≠ none ∧
    ((2 : Byte) - (linkIn .run).link.r).toNat ≤ (linkIn .run).pool.free.length ∧
    (noneFree (linkIn .run)).pool.free.length < ((2 : Byte) - (linkIn .run).link.r).toNat := by decide +kernel

theorem witness_EntriesThatSendMessages :
    let s := oneTransmit (linkIn .run)
    let back := { threeSent with link := { threeSent.link with t := 10 } }
    s.latch.fatal = false ∧ s.tx.inflight = none ∧ s.tx.fifo = [] ∧ s.pool.transmit = 2 :: [] ∧
    s.pool.completion.length ≠ s.cfg.window + 4 ∧ (oneTransmit (linkIn .maintenance)).link.state = .maintenance ∧ s.link.state = .run ∧ s.link.snak = false ∧
    s.link.srep = false ∧ s.link.t = s.link.n + 1 ∧ s.pool.ackWait.length < s.cfg.window ∧
    seqLT back.cfg.window back.link.t (back.link.n + 1) = true ∧ findSeq back back.link.t = some 2 ∧
    findSeq { back with pool.ackWait := [] } back.link.t = none := by decide +kernel

/-- After reset no condition holds; with a user halt scanned DR00's does; and a fatal link. -/
theorem witness_EntriesThatDoNotMatchChangeNothing :
    (∀ x ∈ entryConditions State.reset, ¬ x.2) ∧ (∃ x ∈ entryConditions (scanning .userHalt State.reset), x.2) ∧
    (scanning .userHalt State.reset).latch.fatal = false ∧ (raiseFatal .poolExhausted State.reset).latch.fatal = true := by
  refine ⟨?_, ⟨_, List.mem_cons_self, rfl⟩, by decide, by decide⟩
  simp [entryConditions, scansFor, scansPacket, State.reset, State.resetWith]

/-- Sealed frames of each kind, and a state in each link state that meets the rest. -/
theorem witness_ControlFramesTakeEffect :
    let s := busy threeSent
    (controlSealed 6 { flags := 0, subfield := 0, resp := 0, num := 0, addr := 1, hcrc := 0x9549 } ∧
      controlSealed 7 { flags := 0, subfield := 0, resp := 0, num := 0, addr := 1, hcrc := 0x5574 } ∧
      controlSealed 1 { flags := 0, subfield := 0, resp := 11, num := 0, addr := 1, hcrc := 0x978D } ∧
      controlSealed 2 { flags := 0, subfield := 2, resp := 5, num := 0, addr := 1, hcrc := 0xECA9 } ∧
      controlSealed 3 { flags := 0, subfield := 0, resp := 0, num := 0, addr := 1, hcrc := 0x9585 } ∧
      controlSealed 3 { flags := 0, subfield := 0, resp := 0, num := 7, addr := 1, hcrc := 0xA587 }) ∧
    Ready s ∧ s.cfg.corruptPermille = 0 ∧ s.link.lineConnected = true ∧ s.tx.inflight ≠ none ∧
    s.pool.completion.length + s.pool.ackWait.length < s.cfg.window + 4 ∧
    s.pool.ackWait.length + s.pool.transmit.length ≤ s.cfg.window ∧ s.link.state = .run ∧
    seqLT s.cfg.window s.link.a 11 = true ∧ seqLE s.cfg.window 11 s.link.n = true ∧
    (let b := busy { linkIn .run with link := { (linkIn .run).link with a := 4, n := 5 } }
     Ready b ∧ seqLE b.cfg.window b.link.a 5 = true ∧ seqLE b.cfg.window 5 b.link.n = true) ∧
    (0 : Byte) = s.link.r ∧ (7 : Byte) ≠ s.link.r ∧
    (∀ st ∈ [LinkState.iStart, .aStart],
      let b := busy (linkIn st)
      Ready b ∧ b.link.lineConnected = true ∧ b.tx.inflight ≠ none ∧ b.link.state = st) := by
  dsimp only [Ready, AtRest, controlSealed]; decide +kernel

theorem witness_StrtIsAnsweredWithStack :
    let s := later (linkIn .iStart)
    Ready s ∧ s.cfg.corruptPermille = 0 ∧
    controlSealed 6 { flags := 0, subfield := 0, resp := 0, num := 0, addr := 1, hcrc := 0x9549 } ∧ s.link.state = .iStart ∧
    (linkIn .aStart).link.state = .aStart ∧ s.pool.free = 0 :: [1, 2, 3, 4, 5, 6, 7] ∧ (busy s).tx.inflight ≠ none ∧
    s.tx.inflight = none ∧ s.tx.fifo = [] ∧ s.env.answers = .acceptedLater :: [] := by
  dsimp only [Ready, AtRest, controlSealed]; decide +kernel

/-- The frames of V-D1, V-D2, V-D11 and `maint_frame("XY", 2)`, with right CRCs and with wrong ones, and states that take them. -/
theorem witness_MessageFramesTakeEffect :
    let abc : List Byte := [0x41, 0x42, 0x43]
    let h := fun (num resp : Byte) (crc : Word16) =>
      ({ flags := 0, count := 3, resp := resp, num := num, addr := 1, hcrc := crc } : DataHeader)
    let s := fun len => busy (oneReceive len { linkIn .run with link.r := 5 })
    (dataSealed 0x81 (h 6 0 0x7198) ∧ dataSealed 0x81 (h 8 0 0x119C) ∧ dataSealed 0x81 (h 7 2 0x2138) ∧
      ¬ dataSealed 0x81 (h 7 0 0x7198) ∧
      dataSealed 0x90 { flags := 3, count := 2, resp := 0, num := 0, addr := 1, hcrc := 0x5099 }) ∧
    (crc16 0 abc = 0x4521 ∧ crc16 0 [0x58, 0x59] = 0xFAFB ∧ (0x4522 : Word16) ≠ crc16 0 abc ∧
      abc.length = (h 6 0 0).count.toNat) ∧
    (Ready (s 3) ∧ (s 3).cfg.corruptPermille = 0 ∧ (s 3).link.lineConnected = true ∧ (s 3).tx.inflight ≠ none ∧
      (s 3).pool.completion.length + (s 3).pool.ackWait.length < (s 3).cfg.window + 4 ∧ (s 3).link.state = .run ∧
      (6 : Byte) = (s 3).link.r + 1 ∧ (s 3).pool.receive = 2 :: []) ∧
    (Ready (s 2) ∧ (s 2).tx.inflight ≠ none ∧ (s 2).link.state = .run ∧ (s 2).pool.receive = 2 :: []) ∧
    ((descOf (s 2) 2).length.toNat < 3 ∧ 3 ≤ (descOf (s 3) 2).length.toNat) ∧
    (busy { linkIn .run with link.r := 5 }).pool.receive = [] ∧
    (seqGT 8 8 ((s 3).link.r + 1) = true ∧ ((8 : Byte) - (s 3).link.r).toNat ≤ (s 3).pool.free.length) ∧
    (seqLT 8 7 (7 + 1) = true ∧ seqLT 8 1 2 = true ∧ seqLE 8 2 3 = true) ∧
    (Ready (busy (linkIn .maintenance)) ∧ (busy (linkIn .maintenance)).link.state = .maintenance ∧
      (s 3).link.state ≠ .maintenance) := by
  dsimp only [Ready, AtRest, dataSealed]; decide +kernel

theorem witness_StepRunsTheDecodedInstruction :
    decode (buildAck 5 0) = .instr (.ack { flags := 0, subfield := 0, resp := 5, num := 0, addr := 1, hcrc := 0x54EC }) [] ∧
    (∀ i, decode [1, 2, 3] ≠ .instr i []) ∧ (external .tick = true ∧ Instr.tick.wellFormed = true) ∧
    (let i : Instr := .data { flags := 0, count := 3, resp := 0, num := 0, addr := 1, hcrc := 0 } [1, 2] 0
     external i = true ∧ i.wellFormed = false) ∧
    external .setSACK = false ∧ State.reset.env.input = [] ∧
    ({ State.reset.env with input := [.hostStore 100 [0x41]] } : Env).input = .hostStore 100 [0x41] :: [] := by
  refine ⟨by decide +kernel, fun i h => ?_, by decide, by decide, by decide, by decide, rfl⟩
  cases h

/-- Reset is canonical, and so is a memory with two bytes listed, the second one at the top of the buffer of V-D1. -/
theorem witness_HostMemoryReadsWhatWasWritten : State.reset.env.mem.wf = true ∧ Memory.wf [(100, 0x41), (102, 0x43)] = true := by decide

theorem witness_InvariantsHoldAtReset : Config.atReset.InRange ∧ ({ Config.atReset with qdepth := 63, corruptPermille := 999 } : Config).InRange ∧
    Memory.wf Env.initial.mem = true := by decide

/-- Single ownership holds with a buffer in each queue, a control frame staged and a data frame in flight, and `completion`
holding buffers and an event; and reset keeps both invariants, so their hypotheses can be met. -/
theorem witness_OwnedQueuesFitTheirCapacities :
    let s := { State.reset with
      pool := { State.reset.pool with
        free := [5], receive := [0], transmit := [1], ackWait := [2]
        completion := [{ buffer := some 3, actualLength := 4, code := .txBufferComplete },
          { buffer := none, actualLength := 0, code := .disconnect }, { buffer := some 6, actualLength := 0, code := .rxBufferKilled },
          { buffer := some 7, actualLength := 0, code := .rxBufferKilled }]
        desc := State.reset.pool.desc.mapIdx fun i d =>
          { d with kind := if i = 1 ∨ i = 2 then .transmitData else if i = 4 then .transmitControl else .receive } }
      tx.fifo := [{ bytes := buildAck 0 0, kind := .control, num := 0, desc := some 4 }]
      tx.inflight := some { bytes := [1], kind := .data, num := 1, desc := none } }
    Owned s ∧ ∃ h, h < s.cfg.window ∧ some h ∉ s.pool.completion.map (·.buffer) := by
  refine ⟨⟨by decide +kernel, by decide +kernel, by decide +kernel, ?_, by decide +kernel, by decide +kernel, by decide +kernel,
    by decide +kernel, by decide +kernel⟩, 5, by decide +kernel, by decide +kernel⟩
  intro i hi h hh
  simp only [List.cons_append, List.nil_append, Option.toList_some, List.mem_cons, List.not_mem_nil, or_false] at hi
  rcases hi with rfl | rfl <;> cases hh
  rfl

theorem witness_EveryStepKeepsTheEngineInvariant_and_EveryOutsideStepKeepsTheLinkInvariant :
    let s := { State.reset with env.input := [.call (.onLineStatusChange true)] }
    EngineInv s ∧ LinkInv s ∧ (after (step s)).isSome = true := by
  refine ⟨⟨by decide, ?_, ?_, rfl, rfl⟩, ⟨rfl, ?_, ?_, ⟨by decide +kernel, by decide +kernel, by decide +kernel, ?_,
    by decide +kernel, by decide +kernel, by decide +kernel, by decide +kernel, by decide +kernel⟩⟩, by decide +kernel⟩
  · intro h; exact absurd h.1 (by decide)
  · exact ⟨Nat.zero_le _, fun h => absurd h (by decide)⟩
  · dsimp only [Quiescent]; decide +kernel
  · intro h; exact absurd h (by decide)
  · intro i hi; cases hi

/-- A frame staged, and a transport that delivers an ACK inside the send, with and without a completion after it; while a
dispatch runs, and while none does. -/
theorem witness_FramesDeliveredInsideSendMerge :
    let ack := buildAck 0 0
    let offered := fun completes => offering (.acceptedReceiving [ack] completes)
    Owned (offered true) ∧ (offered true).cfg.InRange ∧ (received ack).isSome = true ∧ (enterDispatch (offered true)).disp.scanning = true ∧
    (offered true).disp.scanning = false ∧ (offered true).latch.fatal = false ∧ (offered true).cfg.corruptPermille = 0 ∧
    (offered true).tx.inflight = none ∧ (offered true).tx.fifo = dataItem :: [] ∧
    (∀ c ∈ [false, true], (offerFrame dataItem.bytes (offered c)).1 = .acceptedReceiving [ack] c) ∧
    (after (receptions [ack] (busy (linkIn .run)))).isSome = true :=
  ⟨owned_offering _, by decide, by decide +kernel⟩

end Sys2Proof.Tests
end

/-! SUPPORT. The codec operations (40_crc16.md, 41_codec_build.md): what each builder writes, as strings of bytes that their
CRC follows, and what each operation answers when it is executed. -/

namespace Sys2Proof.Proofs.Codec

open Sys2Proof.Machine

/-! ### The bytes of the builders -/

/-- R120: a header is its six bytes, the last of them the address fill, and their CRC. -/
theorem header_eq_withCrc (b0 b1 b2 b3 b4 : Byte) :
    header b0 b1 b2 b3 b4 = withCrc [b0, b1, b2, b3, b4, 0x01] := rfl

/-- R129: a payload and its trailer are the payload and its CRC. -/
theorem append_trailer (p : List Byte) : p ++ trailer p = withCrc p := rfl

/-- R121: the CRC of the header and that of the payload are separate. -/
theorem buildData_eq_withCrc (buf : List Byte) (len : BitVec 14) (f : BitVec 2) (num resp : Byte) :
    buildData buf len f num resp =
      withCrc [0x81, len.extractLsb' 0 8, f ++ len.extractLsb' 8 6, resp, num, 0x01] ++ withCrc buf := by
  rw [buildData, header_eq_withCrc, List.append_assoc, append_trailer]
  rfl

/-- R122. -/
theorem buildAck_eq_withCrc (resp : Byte) (f : BitVec 2) :
    buildAck resp f = withCrc [0x05, 1, f ++ (0 : BitVec 6), resp, 0, 0x01] :=
  header_eq_withCrc ..

/-- R123: the reason is in the low six bits of byte 2. -/
theorem buildNak_eq_withCrc (r : BitVec 6) (resp : Byte) (f : BitVec 2) :
    buildNak r resp f = withCrc [0x05, 2, f ++ r, resp, 0, 0x01] :=
  header_eq_withCrc ..

/-- R124. -/
theorem buildRep_eq_withCrc (num : Byte) (f : BitVec 2) :
    buildRep num f = withCrc [0x05, 3, f ++ (0 : BitVec 6), 0, num, 0x01] :=
  header_eq_withCrc ..

/-- R125. -/
theorem buildStart_eq_withCrc (f : BitVec 2) :
    buildStart f = withCrc [0x05, 6, f ++ (0 : BitVec 6), 0, 0, 0x01] :=
  header_eq_withCrc ..

/-- R126. -/
theorem buildStartAck_eq_withCrc (f : BitVec 2) :
    buildStartAck f = withCrc [0x05, 7, f ++ (0 : BitVec 6), 0, 0, 0x01] :=
  header_eq_withCrc ..

/-- R127: both flag bits are set, whatever the length. -/
theorem buildMaintenance_eq_withCrc (len : BitVec 14) :
    buildMaintenance len =
      withCrc [0x90, len.extractLsb' 0 8, (3 : BitVec 2) ++ len.extractLsb' 8 6, 0, 0, 0x01] :=
  header_eq_withCrc ..

/-! ### What each operation answers, and that it changes nothing else (R68, R140) -/

section
variable (s : State)

theorem exec_crc16 (seed : Word16) (b : List Byte) :
    exec (.crc16 seed b) s = .next { s with env.reply := .word (crc16 seed b) } := rfl

theorem exec_parse (b : List Byte) : exec (.parse b) s = .next { s with env.reply := .parsed (parse b) } := rfl

theorem exec_header (b0 b1 b2 b3 b4 : Byte) :
    exec (.header b0 b1 b2 b3 b4) s = .next { s with env.reply := .bytes (header b0 b1 b2 b3 b4) } := rfl

theorem exec_trailer (p : List Byte) : exec (.trailer p) s = .next { s with env.reply := .bytes (trailer p) } := rfl

theorem exec_buildData (buf : List Byte) (len : BitVec 14) (f : BitVec 2) (num resp : Byte) :
    exec (.buildData buf len f num resp) s =
      .next { s with env.reply := .bytes (buildData buf len f num resp) } := rfl

theorem exec_buildAck (resp : Byte) (f : BitVec 2) :
    exec (.buildAck resp f) s = .next { s with env.reply := .bytes (buildAck resp f) } := rfl

theorem exec_buildNak (r : BitVec 6) (resp : Byte) (f : BitVec 2) :
    exec (.buildNak r resp f) s = .next { s with env.reply := .bytes (buildNak r resp f) } := rfl

theorem exec_buildRep (num : Byte) (f : BitVec 2) :
    exec (.buildRep num f) s = .next { s with env.reply := .bytes (buildRep num f) } := rfl

theorem exec_buildStart (f : BitVec 2) :
    exec (.buildStart f) s = .next { s with env.reply := .bytes (buildStart f) } := rfl

theorem exec_buildStartAck (f : BitVec 2) :
    exec (.buildStartAck f) s = .next { s with env.reply := .bytes (buildStartAck f) } := rfl

theorem exec_buildMaintenance (len : BitVec 14) :
    exec (.buildMaintenance len) s = .next { s with env.reply := .bytes (buildMaintenance len) } := rfl

end

/-- Settles O9: each operation answers what its pure function gives, and each builder's bytes are those of its equation. -/
theorem codecInstructionsAnswer : Obligations.CodecInstructionsAnswer := by
  intro s
  refine ⟨exec_crc16 s, exec_parse s, ?header, exec_trailer s, ?data, ?ack, ?nak, ?rep, ?start, ?startAck, ?maint⟩
  case header => intro b0 b1 b2 b3 b4; rw [exec_header, header_eq_withCrc]
  case data => intro buf len f num resp head; rw [exec_buildData, buildData_eq_withCrc]
  case ack => intro resp f; rw [exec_buildAck, buildAck_eq_withCrc]
  case nak => intro r resp f; rw [exec_buildNak, buildNak_eq_withCrc]
  case rep => intro num f; rw [exec_buildRep, buildRep_eq_withCrc]
  case start => intro f; rw [exec_buildStart, buildStart_eq_withCrc]
  case startAck => intro f; rw [exec_buildStartAck, buildStartAck_eq_withCrc]
  case maint => intro len head; rw [exec_buildMaintenance, buildMaintenance_eq_withCrc]

end Sys2Proof.Proofs.Codec

/-! SUPPORT. The CRC over bytes (40_crc16.md): one bit step undone, hence which two bytes after a string leave the CRC 0. -/

namespace Sys2Proof.Proofs.Crc

open Sys2Proof.Machine

/-- R113: a string in two parts. -/
theorem crc16_append (seed : Word16) (s t : List Byte) : crc16 seed (s ++ t) = crc16 (crc16 seed s) t :=
  List.foldl_append

/-- A step that shifts out 0 only shifts. -/
theorem crcBit_of_even {x : Word16} (even : x.getLsbD 0 = false) : crcBit x = x >>> 1 := by
  rw [crcBit, even, if_neg Bool.false_ne_true]

/-- The bit that a step shifts out is the top bit of its result, because the mask has its top bit set. -/
theorem msb_crcBit (x : Word16) : (crcBit x).msb = x.getLsbD 0 := by
  cases low : x.getLsbD 0 with
  | false => simp [crcBit_of_even low, BitVec.msb_eq_getLsbD_last]
  | true => rw [crcBit, low, if_pos rfl]; simp [crcMask, BitVec.msb_eq_getLsbD_last]

/-- A result whose top bit is clear comes from one word only. -/
theorem crcBit_eq_iff {x y : Word16} (hy : y.toNat < 2 ^ 15) : crcBit x = y ↔ x = y <<< 1 := by
  constructor
  · rintro rfl
    have top : (crcBit x).msb = false := BitVec.msb_eq_false_iff_two_mul_lt.mpr (by omega)
    have even : x.getLsbD 0 = false := by rw [← msb_crcBit, top]
    have low : x.toNat % 2 = 0 := by simpa [BitVec.getLsbD, Nat.testBit_zero] using even
    rw [crcBit_of_even even]
    bv_omega
  · rintro rfl
    rw [crcBit_of_even (by simp)]
    bv_omega

/-- Four steps give a word with four clear bits at its top only by shifting. -/
theorem crcBits4_eq_iff {x y : Word16} (hy : y.toNat < 2 ^ 12) : crcBits4 x = y ↔ x = y <<< 4 := by
  rw [crcBits4, crcBit_eq_iff (by omega), crcBit_eq_iff (by bv_omega), crcBit_eq_iff (by bv_omega),
    crcBit_eq_iff (by bv_omega), ← BitVec.shiftLeft_add, ← BitVec.shiftLeft_add, ← BitVec.shiftLeft_add]

/-- A byte leaves a CRC whose high byte is 0 only if it is the low byte of the CRC before it; the other byte moves down. -/
theorem crcByte_eq_zero_append_iff (c : Word16) (b v : Byte) : crcByte c b = (0 : Byte) ++ v ↔ c = v ++ b := by
  have small : ((0 : Byte) ++ v).toNat < 2 ^ 8 := by
    rw [BitVec.toNat_append]
    simp [v.isLt]
  have parts : v ++ b = ((0 : Byte) ++ v) <<< 4 <<< 4 ^^^ b.setWidth 16 := by
    rw [← BitVec.shiftLeft_add]
    ext i hi
    grind
  calc crcByte c b = (0 : Byte) ++ v
      ↔ c ^^^ b.setWidth 16 = ((0 : Byte) ++ v) <<< 4 <<< 4 := by
        rw [crcByte, crcBits4_eq_iff (by omega), crcBits4_eq_iff (by bv_omega)]
    _ ↔ c = v ++ b := by rw [parts, xor_eq_iff_left_eq]

/-- Two bytes after a string leave the CRC 0 exactly where they are its CRC, the low byte first. -/
theorem crc16_append_pair_eq_zero_iff (p : List Byte) (lo hi : Byte) :
    crc16 0 (p ++ [lo, hi]) = 0 ↔ crc16 0 p = hi ++ lo := by
  rw [crc16_append]
  calc crcByte (crcByte (crc16 0 p) lo) hi = (0 : Byte) ++ (0 : Byte)
      ↔ crcByte (crc16 0 p) lo = (0 : Byte) ++ hi := crcByte_eq_zero_append_iff ..
    _ ↔ crc16 0 p = hi ++ lo := crcByte_eq_zero_append_iff ..

/-- R113: the residue of a string with its own CRC after it. -/
theorem crc16_withCrc (p : List Byte) : crc16 0 (withCrc p) = 0 :=
  (crc16_append_pair_eq_zero_iff ..).mpr
    (BitVec.extractLsb'_append_extractLsb' (w := 8) (len := 8) (x := crc16 0 p)).symm

/-- The first eight bytes of what begins with a header. -/
theorem crc16_take_header (b0 b1 b2 b3 b4 : Byte) (rest : List Byte) :
    crc16 0 ((header b0 b1 b2 b3 b4 ++ rest).take 8) = 0 :=
  crc16_withCrc [b0, b1, b2, b3, b4, 0x01]

end Sys2Proof.Proofs.Crc

/-! SUPPORT. `parse` (42_codec_parse.md): what it answers at each of its checks, and on the frames of the builders. -/

namespace Sys2Proof.Proofs.Parse

open Sys2Proof.Machine Sys2Proof.Proofs.Crc Sys2Proof.Proofs.Codec

/-! ### The fields of bytes 1 and 2 (R83, R84) -/

@[simp] theorem countOf_count (f : BitVec 2) (n : BitVec 14) : countOf (countLow n) (byte2Of f (countHigh n)) = n := by
  rw [countOf, low6Of, byte2Of, BitVec.extractLsb'_append_eq_right]
  exact BitVec.extractLsb'_append_extractLsb' (w := 6) (len := 8)

@[simp] theorem flagsOf_byte2Of (f : BitVec 2) (low : BitVec 6) : flagsOf (byte2Of f low) = f :=
  BitVec.extractLsb'_append_eq_left

@[simp] theorem low6Of_byte2Of (f : BitVec 2) (low : BitVec 6) : low6Of (byte2Of f low) = low :=
  BitVec.extractLsb'_append_eq_right

/-- R83: the count as a number. -/
theorem toNat_countOf (b1 b2 : Byte) : (countOf b1 b2).toNat = b1.toNat + 256 * (b2.toNat % 64) := by
  have low : (low6Of b2).toNat = b2.toNat % 64 := by simp [low6Of]
  rw [countOf, BitVec.toNat_append, low, ← Nat.shiftLeft_add_eq_or_of_lt b1.isLt, Nat.shiftLeft_eq]
  omega

/-! ### The class of a control frame (R145) -/

/-- The sub-types of R145 with their classes. -/
theorem controlClass_of_listed {b1 : Byte} {cls : PacketClass}
    (h : (b1 = 1 ∧ cls = .ack) ∨ (b1 = 2 ∧ cls = .nak) ∨ (b1 = 3 ∧ cls = .rep) ∨ (b1 = 6 ∧ cls = .strt) ∨
      (b1 = 7 ∧ cls = .stack)) : controlClass b1 = some cls := by
  rcases h with ⟨rfl, rfl⟩ | ⟨rfl, rfl⟩ | ⟨rfl, rfl⟩ | ⟨rfl, rfl⟩ | ⟨rfl, rfl⟩ <;> rfl

theorem controlClass_of_unlisted {b1 : Byte} (ack : b1 ≠ ctlAck) (nak : b1 ≠ ctlNak) (rep : b1 ≠ ctlRep)
    (strt : b1 ≠ ctlStrt) (stack : b1 ≠ ctlStack) : controlClass b1 = none := by
  rw [controlClass, if_neg ack, if_neg nak, if_neg rep, if_neg strt, if_neg stack]

/-! ### The checks in their order (R141 to R147) -/

section
variable {b0 b1 b2 b3 b4 b5 b6 b7 : Byte} {body : List Byte}

/-- R142. -/
theorem parse_of_short : ∀ {bs : List Byte}, bs.length < 8 → parse bs = .messageError .tooShort
  | [], _ | [_], _ | [_, _], _ | [_, _, _], _ | [_, _, _, _], _ | [_, _, _, _, _], _ | [_, _, _, _, _, _], _
  | [_, _, _, _, _, _, _], _ => rfl
  | _ :: _ :: _ :: _ :: _ :: _ :: _ :: _ :: _, short => absurd short (by simp)

/-- R143. -/
theorem parse_of_badType (soh : b0 ≠ 0x81) (enq : b0 ≠ 0x05) (dle : b0 ≠ 0x90) :
    parse (b0 :: b1 :: b2 :: b3 :: b4 :: b5 :: b6 :: b7 :: body) = .messageError .badType := by
  rw [parse, if_pos ⟨soh, enq, dle⟩]

/-- A type that R143 lists passes the check of R143. -/
theorem not_badType (type : b0 = 0x81 ∨ b0 = 0x05 ∨ b0 = 0x90) : ¬(b0 ≠ typeSOH ∧ b0 ≠ typeENQ ∧ b0 ≠ typeDLE) :=
  fun ⟨soh, enq, dle⟩ => type.elim soh (·.elim enq dle)

/-- R144: the header CRC is 0 exactly where the two bytes stored are the CRC of the six before them. -/
theorem headerCRC_eq_zero_iff :
    crc16 0 [b0, b1, b2, b3, b4, b5, b6, b7] = 0 ↔ crc16 0 [b0, b1, b2, b3, b4, b5] = b7 ++ b6 :=
  crc16_append_pair_eq_zero_iff [b0, b1, b2, b3, b4, b5] b6 b7

/-- R144. -/
theorem parse_of_headerCRC (type : b0 = 0x81 ∨ b0 = 0x05 ∨ b0 = 0x90)
    (crc : crc16 0 [b0, b1, b2, b3, b4, b5, b6, b7] ≠ 0) :
    parse (b0 :: b1 :: b2 :: b3 :: b4 :: b5 :: b6 :: b7 :: body) = .messageError .headerCRC := by
  rw [parse, if_neg (not_badType type), if_pos crc]

/-- R145: a control frame with a right header CRC. -/
theorem parse_enq (crc : crc16 0 [0x05, b1, b2, b3, b4, b5, b6, b7] = 0) :
    parse (0x05 :: b1 :: b2 :: b3 :: b4 :: b5 :: b6 :: b7 :: body) = parseControl b1 b2 b3 b4 b5 := by
  rw [parse, if_neg (not_badType (.inr (.inl rfl))), if_neg (not_not_intro crc),
    if_pos (show (0x05 : Byte) = typeENQ from rfl)]

/-- R146: a data or maintenance frame with a right header CRC. -/
theorem parse_message (type : b0 = 0x81 ∨ b0 = 0x90) (crc : crc16 0 [b0, b1, b2, b3, b4, b5, b6, b7] = 0) :
    parse (b0 :: b1 :: b2 :: b3 :: b4 :: b5 :: b6 :: b7 :: body) =
      parseBody (if b0 = 0x81 then .data else .maint) b1 b2 b3 b4 b5 body := by
  have listed : b0 = 0x81 ∨ b0 = 0x05 ∨ b0 = 0x90 := type.imp_right .inr
  have notEnq : b0 ≠ typeENQ := by rcases type with rfl | rfl <;> decide
  rw [parse, if_neg (not_badType listed), if_neg (not_not_intro crc), if_neg notEnq]
  rfl

/-- R145, R147. -/
theorem parseControl_of_some {cls : PacketClass} (h : controlClass b1 = some cls) :
    parseControl b1 b2 b3 b4 b5 =
      .packet { cls := cls, count := 0, flags := flagsOf b2, resp := b3, num := b4, subfield := low6Of b2, addr := b5,
                payload := [] } := by
  rw [parseControl, h]

/-- R145. -/
theorem parseControl_of_none (h : controlClass b1 = none) :
    parseControl b1 b2 b3 b4 b5 = .messageError .badSubtype := by
  rw [parseControl, h]

/-- R146: too few bytes, or a wrong CRC over the payload and its trailer. -/
theorem parseBody_of_dataCRC {cls : PacketClass} (h : body.length < (countOf b1 b2).toNat + 2 ∨
      crc16 0 (body.take ((countOf b1 b2).toNat + 2)) ≠ 0) :
    parseBody cls b1 b2 b3 b4 b5 body = .messageError .dataCRC := by
  by_cases short : body.length < (countOf b1 b2).toNat + 2
  case pos => rw [parseBody, if_pos short]
  case neg => rw [parseBody, if_neg short, if_pos (h.resolve_left short)]

/-- R146, R147. -/
theorem parseBody_of_right {cls : PacketClass} (enough : (countOf b1 b2).toNat + 2 ≤ body.length)
    (crc : crc16 0 (body.take ((countOf b1 b2).toNat + 2)) = 0) :
    parseBody cls b1 b2 b3 b4 b5 body =
      .packet { cls := cls, count := countOf b1 b2, flags := flagsOf b2, resp := b3, num := b4, subfield := 0,
                addr := b5, payload := body.take (countOf b1 b2).toNat } := by
  rw [parseBody, if_neg (Nat.not_lt.mpr enough), if_neg (not_not_intro crc)]

end

/-- Settles O6: one lemma for each check, in the order of R141. -/
theorem parseChecksInOrder : Obligations.ParseChecksInOrder := by
  refine ⟨fun bs => parse_of_short, ?_⟩
  intro b0 b1 b2 b3 b4 b5 b6 b7 body bs count
  have hcount : count = (countOf b1 b2).toNat := (toNat_countOf b1 b2).symm
  have htake : bs.take 8 = [b0, b1, b2, b3, b4, b5, b6, b7] := rfl
  rw [htake, hcount, BitVec.ofNat_toNat, BitVec.setWidth_eq]
  refine ⟨parse_of_badType, fun type => ⟨headerCRC_eq_zero_iff, parse_of_headerCRC type, ?control, ?message⟩⟩
  case control =>
    rintro crc rfl
    exact ⟨fun cls listed => (parse_enq crc).trans (parseControl_of_some (controlClass_of_listed listed)),
      fun ack nak rep strt stack =>
        (parse_enq crc).trans (parseControl_of_none (controlClass_of_unlisted ack nak rep strt stack))⟩
  case message =>
    intro crc notEnq
    have isMessage : b0 = 0x81 ∨ b0 = 0x90 := type.imp_right (Or.resolve_left · notEnq)
    exact ⟨fun wrong => (parse_message isMessage crc).trans (parseBody_of_dataCRC wrong),
      fun enough right => (parse_message isMessage crc).trans (parseBody_of_right enough right)⟩

/-! ### The frames of the builders (R149) -/

/-- A header of type `ENQ` and a listed sub-type, as the control builders write it. -/
theorem parse_header_enq {b1 : Byte} {cls : PacketClass} (f : BitVec 2) (low : BitVec 6) (resp num : Byte)
    (h : controlClass b1 = some cls) :
    parse (header 0x05 b1 (byte2Of f low) resp num) =
      .packet { cls := cls, count := 0, flags := f, resp := resp, num := num, subfield := low, addr := 1,
                payload := [] } := by
  have crc : crc16 0 (header 0x05 b1 (byte2Of f low) resp num) = 0 := crc16_withCrc _
  refine (parse_enq crc).trans ?_
  rw [parseControl_of_some h, flagsOf_byte2Of, low6Of_byte2Of]
  rfl

/-- The body of a frame whose payload has the length that its header gives. -/
theorem parseBody_withCrc {cls : PacketClass} {b1 b2 b3 b4 b5 : Byte} {p : List Byte}
    (h : p.length = (countOf b1 b2).toNat) :
    parseBody cls b1 b2 b3 b4 b5 (withCrc p) =
      .packet { cls := cls, count := countOf b1 b2, flags := flagsOf b2, resp := b3, num := b4, subfield := 0,
                addr := b5, payload := p } := by
  have length : (withCrc p).length = (countOf b1 b2).toNat + 2 := by rw [← h]; simp [withCrc]
  have whole : (withCrc p).take ((countOf b1 b2).toNat + 2) = withCrc p := List.take_of_length_le length.le
  have payload : (withCrc p).take (countOf b1 b2).toNat = p := List.take_left' h
  rw [parseBody_of_right length.ge (by rw [whole, crc16_withCrc]), payload]

/-- A header of type `SOH` or `DLE` with the payload it counts, as `buildData` and `maintFrame` write them. -/
theorem parse_header_message {b0 : Byte} (type : b0 = 0x81 ∨ b0 = 0x90) (f : BitVec 2) (resp num : Byte) {n : BitVec 14}
    {p : List Byte} (h : p.length = n.toNat) :
    parse (header b0 (countLow n) (byte2Of f (countHigh n)) resp num ++ p ++ trailer p) =
      .packet { cls := if b0 = 0x81 then .data else .maint, count := n, flags := f, resp := resp, num := num,
                subfield := 0, addr := 1, payload := p } := by
  have crc : crc16 0 (header b0 (countLow n) (byte2Of f (countHigh n)) resp num) = 0 := crc16_withCrc _
  rw [List.append_assoc, append_trailer]
  refine (parse_message type crc).trans <| (parseBody_withCrc (by rw [countOf_count, h])).trans ?_
  rw [countOf_count, flagsOf_byte2Of]
  rfl

/-- Both CRC regions of a frame with a payload. -/
theorem crc16_header_message (b0 b1 b2 b3 b4 : Byte) (p : List Byte) :
    crc16 0 ((header b0 b1 b2 b3 b4 ++ p ++ trailer p).take 8) = 0 ∧
      crc16 0 ((header b0 b1 b2 b3 b4 ++ p ++ trailer p).drop 8) = 0 := by
  rw [List.append_assoc, append_trailer]
  exact ⟨crc16_take_header .., crc16_withCrc p⟩

/-- Settles O5: every builder writes a header with its CRC, and `buildData` and `maintFrame` the payload with its own. -/
theorem builtFramesParseBack : Obligations.BuiltFramesParseBack := by
  constructor
  case left =>
    intro p n f num resp h
    refine ⟨parse_header_message (.inl rfl) f resp num h, parse_header_message (.inr rfl) 3 0 0 h, fun b hb => ?_⟩
    simp only [List.mem_cons, List.not_mem_nil, or_false] at hb
    rcases hb with rfl | rfl <;> exact crc16_header_message ..
  case right =>
    intro resp num f r
    refine ⟨parse_header_enq f 0 resp 0 rfl, parse_header_enq f r resp 0 rfl, parse_header_enq f 0 0 num rfl,
      parse_header_enq f 0 0 0 rfl, parse_header_enq f 0 0 0 rfl, fun b hb => ?_⟩
    simp only [List.mem_cons, List.not_mem_nil, or_false] at hb
    rcases hb with rfl | rfl | rfl | rfl | rfl <;> exact crc16_take_header _ _ _ _ _ []

end Sys2Proof.Proofs.Parse

/-! SUPPORT. Sequence arithmetic (43_sequence_arithmetic.md): `seqCmp` case by case, `inc` and `add` as sums modulo 256, and
what the two instructions answer when they are executed. -/

namespace Sys2Proof.Proofs.Sequence

open Sys2Proof.Machine

/-! ### The comparator, one equation per case of R160 -/

@[simp] theorem seqCmp_self (a : Byte) (w : Nat) : seqCmp a a w = 0 := if_pos rfl

/-- -1, the natural order, up to the window; its inverse beyond. -/
theorem seqCmp_of_lt {a b : Byte} (lt : a.toNat < b.toNat) (w : Nat) :
    seqCmp a b w = if b.toNat - a.toNat ≤ w then -1 else 1 := by
  have ne : a ≠ b := ne_of_apply_ne BitVec.toNat lt.ne
  simp only [seqCmp, if_neg ne, if_pos lt, neg_neg]

/-- +1, the natural order, up to the window; its inverse beyond. -/
theorem seqCmp_of_gt {a b : Byte} (gt : b.toNat < a.toNat) (w : Nat) :
    seqCmp a b w = if a.toNat - b.toNat ≤ w then 1 else -1 := by
  have ne : a ≠ b := ne_of_apply_ne BitVec.toNat gt.ne'
  simp only [seqCmp, if_neg ne, if_neg gt.asymm]

/-- R160 as one expression over the natural numbers of the two bytes. -/
theorem seqCmp_eq (a b : Byte) (w : Nat) :
    seqCmp a b w =
      if a = b then 0
      else if a.toNat < b.toNat then (if b.toNat - a.toNat ≤ w then -1 else 1)
      else if a.toNat - b.toNat ≤ w then 1 else -1 := by
  rcases lt_trichotomy a.toNat b.toNat with lt | eq | gt
  · rw [seqCmp_of_lt lt, if_neg (ne_of_apply_ne BitVec.toNat lt.ne), if_pos lt]
  · obtain rfl := BitVec.eq_of_toNat_eq eq
    rw [seqCmp_self, if_pos rfl]
  · rw [seqCmp_of_gt gt, if_neg (ne_of_apply_ne BitVec.toNat gt.ne'), if_neg gt.asymm]

/-! ### Sums modulo 256 (R163) -/

theorem add_eq_ofNat_mod (v : Byte) (k : Nat) : add v k = BitVec.ofNat 8 ((v.toNat + k) % 256) := by
  apply BitVec.eq_of_toNat_eq
  simp [add]

theorem inc_eq_add_one (v : Byte) : inc v = add v 1 := rfl

/-! ### What each instruction answers, and that it changes nothing else -/

section
variable (s : State)

theorem exec_seqCmp (a b : Byte) (w : Nat) :
    exec (.seqCmp a b w) s = .next { s with env.reply := .order (seqCmp a b w) } := rfl

theorem exec_inc (v : Byte) : exec (.inc (.inc v)) s = .next { s with env.reply := .byte (inc v) } := rfl

theorem exec_add (v : Byte) (k : Nat) : exec (.inc (.add v k)) s = .next { s with env.reply := .byte (add v k) } := rfl

end

/-- Settles O11: the instructions answer what `seqCmp`, `inc` and `add` give, and these are the definitions of R160 and
R163. -/
theorem sequenceInstructionsAnswer : Obligations.SequenceInstructionsAnswer := by
  intro s
  refine ⟨?seqCmp, ?inc, ?add⟩
  case seqCmp => intro a b w order; rw [exec_seqCmp, seqCmp_eq]
  case inc => intro v; rw [exec_inc, inc_eq_add_one, add_eq_ofNat_mod]
  case add => intro v k; rw [exec_add, add_eq_ofNat_mod]

end Sys2Proof.Proofs.Sequence

/-! SUPPORT. Queues and the descriptor pool (44_queues.md): the primitives that `Laws/Ops` leaves out, a record that waits or
does not wait in `completion`, and what each queue instruction does when it is executed. -/

namespace Sys2Proof.Proofs.Queues

open Sys2Proof.Machine

/-! ### `push_front` (R173) where `Laws/Ops` says nothing of it -/

theorem pushFront_full {q : HandleQueue} {s : State} (h : Handle) (full : (handles s.pool q).length = s.cfg.window) :
    pushFront (.handleIn q h) s = (false, s) := by
  simp only [pushFront, listPushFront, capacity_handles, full, if_true]
  cases q <;> rfl

theorem pushFront_record_room {s : State} (r : Completion) (room : s.pool.completion.length ≠ s.cfg.window + 4) :
    pushFront (.recordIn r) s = (true, { s with pool.completion := r :: s.pool.completion }) := by
  simp [pushFront, listPushFront, capacity, room]

theorem pushFront_record_full {s : State} (r : Completion) (full : s.pool.completion.length = s.cfg.window + 4) :
    pushFront (.recordIn r) s = (false, s) := by
  simp [pushFront, listPushFront, capacity, full]

/-! ### Head, tail and count of a queue (R174 to R176) -/

section
variable (p : Pool) (q : HandleQueue)

@[simp] theorem queueHead_handles : queueHead p (handleQueueName q) = (handles p q).head?.map .handle := by
  cases q <;> rfl

@[simp] theorem queueTail_handles : queueTail p (handleQueueName q) = setHandles p q (handles p q).tail := by
  cases q <;> rfl

@[simp] theorem queueCount_handles : queueCount p (handleQueueName q) = (handles p q).length := by
  cases q <;> rfl

@[simp] theorem queueHead_completion : queueHead p .completion = p.completion.head?.map .record := rfl

@[simp] theorem queueTail_completion : queueTail p .completion = { p with completion := p.completion.tail } := rfl

@[simp] theorem setHandles_handles : setHandles p q (handles p q) = p := by
  cases q <;> rfl

end

/-! ### The search in `ack_wait` (R185) -/

/-- The first handle with the number is found, whatever stands behind it. -/
theorem findSeq_of_first {s : State} {n : Byte} {pre post : List Handle} {h : Handle}
    (split : s.pool.ackWait = pre ++ h :: post) (found : (descOf s h).seq = n)
    (first : ∀ k ∈ pre, (descOf s k).seq ≠ n) : findSeq s n = some h := by
  refine List.find?_eq_some_iff_append.mpr ⟨beq_iff_eq.mpr found, pre, post, split, fun k hk => ?_⟩
  simpa using first k hk

theorem findSeq_of_absent {s : State} {n : Byte} (absent : ∀ k ∈ s.pool.ackWait, (descOf s k).seq ≠ n) :
    findSeq s n = none :=
  List.find?_eq_none.mpr fun k hk => by simpa using absent k hk

/-! ### Notification, according to whether a record of the code waits (R181) -/

section
variable {code : EventCode}

/-- The test of `notify` as a statement about the records that wait. -/
theorem any_eventRecord_iff (l : List Completion) :
    l.any (fun r => r.buffer == none && r.code == code) = true ↔ ∃ r ∈ l, r.buffer = none ∧ r.code = code := by
  simp only [List.any_eq_true, Bool.and_eq_true, beq_iff_eq]

/-- A second record of the code is not queued, room or no room. -/
theorem notify_of_waiting {s : State} (waiting : ∃ r ∈ s.pool.completion, r.buffer = none ∧ r.code = code) :
    notify code s = s :=
  if_pos ((any_eventRecord_iff _).mpr waiting)

theorem noted_of_not_waiting {p : Pool} (fresh : ∀ r ∈ p.completion, r.buffer = none → r.code ≠ code) :
    noted code p =
      { p with completion := p.completion ++ [{ buffer := none, actualLength := 0, code := code }] } :=
  if_neg fun waits =>
    let ⟨r, mem, event, same⟩ := (any_eventRecord_iff _).mp waits
    fresh r mem event same

end

/-! ### What each instruction does when it is executed -/

section
variable (s : State)

/-- `enqueue` of an element that brings no handle outside the descriptor table. -/
theorem exec_enqueue {x : QueueArg} (valid : (argHandle x).all (isHandle s) = true) :
    exec (.enqueue x) s = .next (answer (.flag (enqueue x s).1) (enqueue x s).2) := if_pos valid

/-- `push_front` of an element that brings no handle outside the descriptor table. -/
theorem exec_pushFront {x : QueueArg} (valid : (argHandle x).all (isHandle s) = true) :
    exec (.pushFront x) s = .next (answer (.flag (pushFront x s).1) (pushFront x s).2) := if_pos valid

theorem exec_dequeue (q : QueueName) :
    exec (.dequeue q) s = .next (answer (.elem (queueHead s.pool q)) { s with pool := queueTail s.pool q }) := rfl

theorem exec_head (q : QueueName) : exec (.head q) s = .next (answer (.elem (queueHead s.pool q)) s) := rfl

theorem exec_count (q : QueueName) : exec (.count q) s = .next (answer (.count (queueCount s.pool q)) s) := rfl

theorem exec_findSeq (n : Byte) : exec (.findSeq n) s = .next (answer (.found (findSeq s n)) s) := rfl

theorem exec_alloc_of_some {k : BufferKind} {h : Handle} {s₁ : State} (got : alloc k s = some (h, s₁)) :
    exec (.alloc k) s = .next (answer (.handle h) s₁) := by
  simp only [exec, execAlloc, got]

theorem exec_alloc_of_none {k : BufferKind} (empty : alloc k s = none) :
    exec (.alloc k) s = .next (raiseFatal .poolExhausted (answer .none s)) := by
  simp only [exec, execAlloc, empty]

theorem exec_release {h : Handle} (valid : h < s.cfg.window) : exec (.release h) s = .next (release h s) :=
  if_pos (decide_eq_true valid)

theorem exec_requeueAckWait : exec .requeueAckWait s = .next (requeueAckWait s) := rfl

theorem exec_notify (code : EventCode) : exec (.notify code) s = .next (notify code s) := rfl

theorem exec_notifyDisconnect : exec .notifyDisconnect s = .next (notify .disconnect s) := rfl

/-- The latch is set before the record is queued (R252). -/
theorem exec_notifyStartReceived :
    exec .notifyStartReceived s = .next (notify .startReceived { s with latch.startRcvd := true }) := rfl

theorem exec_notifyMaintReceived : exec .notifyMaintReceived s = .next (notify .maintenanceReceived s) := rfl

end

section
variable {s : State}

/-- A handle of the descriptor table may be brought into a queue. -/
theorem argHandle_handleIn_valid {h : Handle} (q : HandleQueue) (valid : h < s.cfg.window) :
    (argHandle (.handleIn q h)).all (isHandle s) = true := decide_eq_true valid

/-- An event record, and a buffer record of a descriptor of the table, may be brought into `completion`. -/
theorem argHandle_recordIn_valid {r : Completion} (valid : ∀ h ∈ r.buffer, h < s.cfg.window) :
    (argHandle (.recordIn r)).all (isHandle s) = true :=
  (Option.all_eq_true ..).mpr fun h hr => decide_eq_true (valid h hr)

end

/-! ### `dequeue` and `head` of an empty queue and of one with a head (R174, R175) -/

/-- `dequeue` and `head` of an empty queue of handles, whose tail is the queue itself. -/
theorem exec_handles_nil {s : State} {q : HandleQueue} (empty : handles s.pool q = []) :
    exec (.dequeue (handleQueueName q)) s = .next { s with env.reply := .elem none } ∧
      exec (.head (handleQueueName q)) s = .next { s with env.reply := .elem none } := by
  have same : queueTail s.pool (handleQueueName q) = s.pool := by
    rw [queueTail_handles, empty, List.tail_nil, ← empty, setHandles_handles]
  rw [exec_dequeue, exec_head, queueHead_handles, same, empty]
  exact ⟨rfl, rfl⟩

theorem exec_handles_cons {s : State} {q : HandleQueue} {h : Handle} {rest : List Handle}
    (cons : handles s.pool q = h :: rest) :
    exec (.dequeue (handleQueueName q)) s =
        .next { s with pool := setHandles s.pool q rest, env.reply := .elem (some (.handle h)) } ∧
      exec (.head (handleQueueName q)) s = .next { s with env.reply := .elem (some (.handle h)) } := by
  rw [exec_dequeue, exec_head, queueHead_handles, queueTail_handles, cons]
  exact ⟨rfl, rfl⟩

/-- `dequeue` and `head` of an empty `completion`, whose tail is the queue itself. -/
theorem exec_completion_nil {s : State} (empty : s.pool.completion = []) :
    exec (.dequeue .completion) s = .next { s with env.reply := .elem none } ∧
      exec (.head .completion) s = .next { s with env.reply := .elem none } := by
  have same : queueTail s.pool .completion = s.pool := by
    rw [queueTail_completion, empty, List.tail_nil, ← empty]
  rw [exec_dequeue, exec_head, queueHead_completion, same, empty]
  exact ⟨rfl, rfl⟩

theorem exec_completion_cons {s : State} {r : Completion} {rest : List Completion}
    (cons : s.pool.completion = r :: rest) :
    exec (.dequeue .completion) s =
        .next { s with pool.completion := rest, env.reply := .elem (some (.record r)) } ∧
      exec (.head .completion) s = .next { s with env.reply := .elem (some (.record r)) } := by
  rw [exec_dequeue, exec_head, queueHead_completion, queueTail_completion, cons]
  exact ⟨rfl, rfl⟩

/-! ### The obligations -/

/-- Settles O16: `requeueAckWait_room` for the instruction, `transmit` having room for what `ack_wait` holds. -/
theorem requeueAckWaitRestoresTheOrder : Obligations.RequeueAckWaitRestoresTheOrder := by
  intro s room
  rw [exec_requeueAckWait, requeueAckWait_room room]
  rfl

/-- Settles O12: each primitive on a queue of handles and on `completion`, full and with room. -/
theorem enqueueAndPushFrontWithinCapacity : Obligations.EnqueueAndPushFrontWithinCapacity := by
  intro s
  refine ⟨fun q h valid => ?handles, fun r valid => ?records⟩
  case handles =>
    have valid := argHandle_handleIn_valid q valid
    rw [exec_enqueue s valid, exec_pushFront s valid]
    constructor
    · intro full; rw [enqueue_full h full, pushFront_full h full]; exact ⟨rfl, rfl⟩
    · intro room; rw [enqueue_room h room, pushFront_room h room]; exact ⟨rfl, rfl⟩
  case records =>
    have valid := argHandle_recordIn_valid valid
    rw [exec_enqueue s valid, exec_pushFront s valid]
    constructor
    · intro full; rw [enqueue_record_full r full, pushFront_record_full r full]; exact ⟨rfl, rfl⟩
    · intro room; rw [enqueue_record_room r room, pushFront_record_room r room]; exact ⟨rfl, rfl⟩

/-- Settles O13: the primitives on an empty queue and on one with a head, the count, and the search of `find_seq`. -/
theorem dequeueHeadCountAndFindSeqAnswer : Obligations.DequeueHeadCountAndFindSeqAnswer := by
  refine ⟨fun s => ⟨fun q => ⟨exec_handles_nil, fun h rest => exec_handles_cons, ?count⟩, exec_completion_nil,
    fun r rest => exec_completion_cons, exec_count s .completion⟩, fun s n => ⟨?first, ?absent⟩⟩
  case count => rw [exec_count, queueCount_handles]; rfl
  case first =>
    intro pre h post split found first
    rw [exec_findSeq, findSeq_of_first split found first]
    rfl
  case absent =>
    intro absent
    rw [exec_findSeq, findSeq_of_absent absent]
    rfl

/-- Settles O14: `alloc_cons` where `free` has a head; where it has none, `raiseFatal_room` for the state whose answer is
cleared, which the dump does not show. -/
theorem allocTakesTheHeadOrRaisesFatal : Obligations.AllocTakesTheHeadOrRaisesFatal := by
  refine fun s k => ⟨fun h rest free => ?taken, fun empty room => ?exhausted⟩
  case taken => rw [exec_alloc_of_some s (alloc_cons k free)]; rfl
  case exhausted => rw [exec_alloc_of_none s (alloc_nil k empty), raiseFatal_room (s := answer .none s) _ room]; rfl

/-- Settles O15: `release_room`, and `notify` according to whether a record of its code waits. -/
theorem releaseAndNotificationsAppend : Obligations.ReleaseAndNotificationsAppend := by
  refine ⟨fun s => ⟨fun h valid room => ?release, fun code _ => ⟨fun waiting => ?waiting, fun fresh room => ?fresh⟩⟩,
    fun s room => ⟨?disconnect, ?startReceived, ?maintReceived⟩⟩
  case release => rw [exec_release s valid, release_room h room]
  case waiting => rw [exec_notify, notify_of_waiting waiting]
  case fresh => rw [exec_notify, notify_room code room, noted_of_not_waiting fresh]
  case disconnect => rw [exec_notifyDisconnect, notify_room _ room]
  case startReceived => rw [exec_notifyStartReceived, notify_room (s := { s with latch.startRcvd := true }) _ room]
  case maintReceived => rw [exec_notifyMaintReceived, notify_room _ room]

end Sys2Proof.Proofs.Queues

/-! SUPPORT. The reply timer (45_timer.md): a step that Fatal ends leaves the timer stopped, wherever in the engine it is
raised; what each timer instruction does when it is executed; and an expiry in Run while the transmitter is busy. -/

namespace Sys2Proof.Proofs.Timer

open Sys2Proof.Machine Sys2Proof.Laws

/-! ### A step that Fatal ends leaves the timer stopped (R221, R346)

This is why a kick whose dispatch ends in Fatal needs no countdown after it. The actions take the `tx_kick` that they call as
an argument, so each statement about them asks the same of that. -/

/-- Wherever this piece of a step ends the step, the timer is stopped. -/
def EndsStopped (f : State → Flow) : Prop := ∀ s t, f s = .ended t → t.timer.running = false

@[simp] theorem endsStopped_go (f : State → State) : EndsStopped fun s => .go (f s) := fun _ _ e => nomatch e

/-- Only `raise Fatal` ends a step, and it stops the timer. -/
theorem raiseFatal_stopped {c : FatalCause} {s t : State} (e : Flow.ended (raiseFatal c s) = .ended t) :
    t.timer.running = false := by
  obtain ⟨_, _, stopped, _⟩ := raiseFatal_halts c s
  injection e with e
  rw [← e, stopped]

theorem andThen_eq_ended {f : Flow} {g : State → Flow} {t : State} (e : f.andThen g = .ended t) :
    f = .ended t ∨ ∃ s, f = .go s ∧ g s = .ended t := by
  cases f with
  | go s => exact .inr ⟨s, rfl, e⟩
  | ended s => exact .inl e
  | overrun => cases e

theorem EndsStopped.andThen {f g : State → Flow} (hf : EndsStopped f) (hg : EndsStopped g) :
    EndsStopped fun s => (f s).andThen g := by
  intro s t e
  rcases andThen_eq_ended e with ended | ⟨s1, _, ended⟩
  · exact hf s t ended
  · exact hg s1 t ended

theorem endsStopped_runActions : ∀ {l : List (State → Flow)}, (∀ a ∈ l, EndsStopped a) → EndsStopped (runActions l)
  | [], _ => endsStopped_go id
  | a :: _, h => (h a List.mem_cons_self).andThen (endsStopped_runActions fun b hb => h b (List.mem_cons_of_mem a hb))

section
variable {kick : State → Flow} (hk : EndsStopped kick)

@[simp] theorem endsStopped_act (f : State → State) : EndsStopped (act f) := endsStopped_go f

@[simp] theorem endsStopped_start : EndsStopped start := endsStopped_go startTimer

@[simp] theorem endsStopped_stop : EndsStopped stop := endsStopped_go stopTimer

@[simp] theorem endsStopped_onPacket {f : Packet → State → Flow} (hf : ∀ p, EndsStopped (f p)) (pkt : Option RxPkt) :
    EndsStopped (onPacket pkt f) := by
  match pkt with
  | some (.packet p) => exact hf p
  | some (.error _) => exact endsStopped_go id
  | none => exact endsStopped_go id

@[simp] theorem endsStopped_onError {f : BitVec 6 → State → Flow} (hf : ∀ r, EndsStopped (f r)) (pkt : Option RxPkt) :
    EndsStopped (onError pkt f) := by
  match pkt with
  | some (.error r) => exact hf r
  | some (.packet _) => exact endsStopped_go id
  | none => exact endsStopped_go id

include hk

theorem endsStopped_sendControl (b : State → List Byte) : EndsStopped fun s => sendControl kick (b s) s := by
  intro s t e
  simp only [sendControl] at e
  split at e
  · exact raiseFatal_stopped e
  · exact hk _ _ e

@[simp] theorem endsStopped_sendStrt : EndsStopped (sendStrt kick) := endsStopped_sendControl hk _

@[simp] theorem endsStopped_sendStack : EndsStopped (sendStack kick) := endsStopped_sendControl hk _

@[simp] theorem endsStopped_sendAck : EndsStopped (sendAck kick) := endsStopped_sendControl hk _

@[simp] theorem endsStopped_sendNak : EndsStopped (sendNak kick) := endsStopped_sendControl hk _

@[simp] theorem endsStopped_sendRep : EndsStopped (sendRep kick) := endsStopped_sendControl hk _

@[simp] theorem endsStopped_sendMaintMessage : EndsStopped (sendMaintMessage kick) := by
  intro s t e
  simp only [sendMaintMessage] at e
  split at e
  · cases e
  · exact hk _ _ e

@[simp] theorem endsStopped_sendNewData : EndsStopped (sendNewData kick) := by
  intro s t e
  simp only [sendNewData] at e
  split at e
  · cases e
  · exact hk _ _ e

@[simp] theorem endsStopped_retransmitT : EndsStopped (retransmitT kick) := by
  intro s t e
  simp only [retransmitT] at e
  split at e
  · exact raiseFatal_stopped e
  · rcases andThen_eq_ended e with ended | ⟨_, _, ended⟩
    · exact hk _ _ ended
    · cases ended

theorem endsStopped_nakLoop : ∀ (n : Nat) (k : Byte), EndsStopped (nakLoop kick n k)
  | 0, _ => endsStopped_go id
  | n + 1, k =>
    (endsStopped_sendControl hk fun s => buildNak s.cfg.gapNakReason k s.cfg.ctlFlags).andThen
      (endsStopped_nakLoop n (inc k))

@[simp] theorem endsStopped_nakMissing (num : Byte) : EndsStopped (nakMissing kick num) :=
  fun s => endsStopped_nakLoop hk _ _ s

/-- Every action that an entry of the table lists. -/
theorem endsStopped_actions (pkt : Option RxPkt) :
    ∀ r ∈ ruleTable kick, ∀ a ∈ r.actions pkt, EndsStopped a := by
  simp [ruleTable, dr00, dr01, dr02, dr03, dr04, dr05, dr06, dr07, dr08, dr09, dr10, dr11, dr12, dr13, dr14, dr15, dr16,
    dr17, dr18, dr19, dr20, dr21, dr22, dr23, dr24, dr25, dr26, dr27, dr28, hk]

theorem endsStopped_fire (pkt : Option RxPkt) {r : Rule} (hr : r ∈ ruleTable kick) : EndsStopped (r.fire pkt) :=
  (endsStopped_runActions (endsStopped_actions hk pkt r hr)).andThen (endsStopped_go _)

end

/-- What a scan fires is an entry of its list. -/
theorem scanFrom_eq_some {ev : Option EventKind} {pkt : Option RxPkt} {s : State} {f : Flow} :
    ∀ {l : List Rule} {k : Nat}, scanFrom ev pkt s k l = some f → ∃ r ∈ l, ∃ s1, f = r.fire pkt s1
  | r :: _, k, e => by
    simp only [scanFrom] at e
    split at e
    · exact ⟨r, List.mem_cons_self, _, (Option.some.inj e).symm⟩
    · obtain ⟨r', mem, fired⟩ := scanFrom_eq_some e
      exact ⟨r', List.mem_cons_of_mem r mem, fired⟩

theorem scan_stopped {ev : Option EventKind} {s t : State} (e : scan ev s = some (.ended t)) :
    t.timer.running = false := by
  obtain ⟨r, mem, s1, fired⟩ := scanFrom_eq_some e
  exact endsStopped_fire (endsStopped_go _) _ mem s1 t fired.symm

theorem endsStopped_dispatchLoop : ∀ (n : Nat) (ev : Option EventKind), EndsStopped (dispatchLoop n ev)
  | 0, _ => fun _ _ e => nomatch e
  | n + 1, ev => by
    intro s t e
    simp only [dispatchLoop] at e
    split at e
    next s1 scanned => cases e; exact scan_stopped scanned
    next => cases e
    next => split at e <;> exact endsStopped_dispatchLoop n _ _ t e
    next =>
      split at e
      · exact endsStopped_dispatchLoop n _ _ t e
      · cases e

theorem endsStopped_dispatch (ev : EventKind) : EndsStopped (dispatch ev) := by
  intro s t e
  simp only [dispatch] at e
  split at e
  · cases e
  · split at e
    · cases e
    · exact endsStopped_dispatchLoop _ _ _ t e

theorem endsStopped_onReceive (b : List Byte) : EndsStopped (onReceive b) := by
  intro s t e
  simp only [onReceive] at e
  split at e
  · cases e
  · split at e
    · exact endsStopped_dispatch _ _ t e
    · cases e

theorem endsStopped_kickIdle : ∀ n : Nat, EndsStopped (kickIdle n)
  | 0 => fun _ _ e => nomatch e
  | n + 1 => by
    have landed : ∀ item, EndsStopped fun s => (dispatch .transmitDone (landFlight item s)).andThen (kickIdle n) :=
      fun item => EndsStopped.andThen (fun s => endsStopped_dispatch .transmitDone (landFlight item s))
        (endsStopped_kickIdle n)
    intro s t e
    simp only [kickIdle] at e
    split at e
    next => cases e
    next =>
      split at e
      next => cases e
      next item rest _ =>
        split at e
        next => cases e
        next => cases e
        next => exact landed item _ t e
        next frames completes _ =>
          rcases andThen_eq_ended e with ended | ⟨s1, _, ended⟩
          · exact endsStopped_runActions (by simp [endsStopped_onReceive]) _ t ended
          · split at ended
            · exact landed item s1 t ended
            · cases ended

theorem endsStopped_txKick : EndsStopped txKick := by
  intro s t e
  simp only [txKick] at e
  split at e
  · cases e
  · exact endsStopped_kickIdle _ s t e

/-! ### What each timer instruction does when it is executed -/

section
variable (s : State)

theorem exec_startTimer : exec .startTimer s = .next (startTimer s) := rfl

theorem exec_stopTimer : exec .stopTimer s = .next (stopTimer s) := rfl

theorem exec_tick : exec .tick s = (tick s).outcome := rfl

theorem exec_dispatch (e : EventKind) : exec (.dispatch e) s = (dispatch e s).outcome := rfl

end

section
variable {s t : State}

theorem outcome_eq_next {f : Flow} (h : f.outcome = .next t) : f = .go t ∨ f = .ended t := by
  cases f with
  | go s => cases h; exact .inl rfl
  | ended s => cases h; exact .inr rfl
  | overrun => cases h

theorem exec_txKick (live : s.latch.fatal = false) : exec .txKick s = (txKick s).outcome := by
  change (unlessFatal txKick s).outcome = _
  simp [unlessFatal, live]

theorem tick_of_fatal (fatal : s.latch.fatal = true) : tick s = .go s := if_pos fatal

theorem tick_of_live (live : s.latch.fatal = false) : tick s = (txKick s).andThen tickTimer := by simp [tick, live]

theorem tickTimer_of_stopped (stopped : t.timer.running = false) : tickTimer t = .go t := by simp [tickTimer, stopped]

theorem tickTimer_of_counting (running : t.timer.running = true) (left : 2 ≤ t.timer.remaining) :
    tickTimer t = .go { t with timer.remaining := t.timer.remaining - 1 } := by
  have : t.timer.remaining - 1 ≠ 0 := by omega
  simp [tickTimer, running, this]

theorem tickTimer_of_last (running : t.timer.running = true) (last : t.timer.remaining = 1) :
    tickTimer t = dispatch .timerExpired { t with timer := { running := false, remaining := 0 } } := by
  simp [tickTimer, running, last]

/-- A kick that answers leaves the countdown to the tick: where Fatal ended the kick, the timer is stopped and there is
nothing to count. -/
theorem exec_tick_of_kick (live : s.latch.fatal = false) (kicked : exec .txKick s = .next t) :
    exec .tick s = (tickTimer t).outcome := by
  rw [exec_txKick live] at kicked
  rw [exec_tick, tick_of_live live]
  rcases outcome_eq_next kicked with go | ended
  · rw [go]; rfl
  · rw [ended, tickTimer_of_stopped (endsStopped_txKick s t ended)]; rfl

/-- The three ways a tick goes on after its kick (R202). -/
theorem exec_tick_cases (live : s.latch.fatal = false) (kicked : exec .txKick s = .next t) :
    (t.timer.running = false → exec .tick s = .next t) ∧
    (t.timer.running = true → 2 ≤ t.timer.remaining →
      exec .tick s = .next { t with timer.remaining := t.timer.remaining - 1 }) ∧
    (t.timer.running = true → t.timer.remaining = 1 →
      exec .tick s = exec (.dispatch .timerExpired) { t with timer := { running := false, remaining := 0 } }) := by
  rw [exec_tick_of_kick live kicked, exec_dispatch]
  refine ⟨fun stopped => ?_, fun running left => ?_, fun running last => ?_⟩
  · rw [tickTimer_of_stopped stopped]; rfl
  · rw [tickTimer_of_counting running left]; rfl
  · rw [tickTimer_of_last running last]

/-- A kick that finds a frame in flight, or nothing staged, changes nothing (R311). -/
theorem exec_txKick_of_idle (live : s.latch.fatal = false) (idle : s.tx.inflight ≠ none ∨ s.tx.fifo = []) :
    exec .txKick s = .next s := by
  rw [exec_txKick live]
  rcases idle with flying | empty
  · rw [txKick_busy flying]; rfl
  · rw [txKick_empty empty]; rfl

end

/-! ### An expiry in Run while a frame is in flight (R282) -/

section
variable {s : State} {ev : Option EventKind} {pkt : Option RxPkt}

/-- A scan fires the entry that matches when none before it does, its position in `scan_index` (R217). -/
theorem scanFrom_append {pre rest : List Rule} {r : Rule} (applies : r.applies ev pkt s = true) :
    ∀ {k : Nat}, (∀ q ∈ pre, q.applies ev pkt s = false) →
      scanFrom ev pkt s k (pre ++ r :: rest) = some (r.fire pkt { s with disp.scanIndex := k + pre.length }) := by
  induction pre with
  | nil => intro k _; simp [scanFrom, applies]
  | cons q pre ih =>
    intro k quiet
    obtain ⟨first, others⟩ := List.forall_mem_cons.mp quiet
    have position : k + 1 + pre.length = k + (q :: pre).length := by simp only [List.length_cons]; omega
    simp only [List.cons_append, scanFrom, first, ih others, position, Bool.false_eq_true, if_false]

/-- The entries that stand before DR22 in the table. -/
def entriesBeforeDR22 : List Rule := (ruleTable kickInDispatch).take 22

/-- The entries that stand after DR22 in the table. -/
def entriesAfterDR22 : List Rule := (ruleTable kickInDispatch).drop 23

theorem ruleTable_split : ruleTable kickInDispatch = entriesBeforeDR22 ++ dr22 :: entriesAfterDR22 := rfl

/-- In Run, the line up and a frame in flight: without a packet, and with no event or an expiry, no entry but DR22 can match. -/
theorem busyRun_applies_of_not_dr22 (run : s.link.state = .run) (line : s.link.lineConnected = true)
    (flying : s.tx.inflight ≠ none) (hev : ev = none ∨ ev = some .timerExpired) :
    ∀ r ∈ entriesBeforeDR22 ++ entriesAfterDR22, r.applies ev none s = false := by
  have busy : xmitIdle s = false := by simp [xmitIdle, flying]
  rcases hev with rfl | rfl <;>
    simp [entriesBeforeDR22, entriesAfterDR22, ruleTable, Rule.applies, dr00, dr01, dr02, dr03, dr04, dr05, dr06, dr07,
      dr08, dr09, dr10, dr11, dr12, dr13, dr14, dr15, dr16, dr17, dr18, dr19, dr20, dr21, dr23, dr24, dr25, dr26, dr27,
      dr28, run, busy, isEvent, receives, packetHas, receiveMessageError, lineDisconnected, line, dataMessageSent]

theorem dr22_applies (run : s.link.state = .run) : dr22.applies ev pkt s = isEvent .timerExpired ev := by
  simp [Rule.applies, dr22, run]

theorem busyRun_quiescent (run : s.link.state = .run) (line : s.link.lineConnected = true)
    (flying : s.tx.inflight ≠ none) : Quiescent s := by
  intro r mem
  have others := busyRun_applies_of_not_dr22 run line flying (.inl rfl)
  rw [ruleTable_split, List.mem_append, List.mem_cons] at mem
  rcases mem with before | rfl | after
  · exact others r (List.mem_append_left _ before)
  · exact dr22_applies run
  · exact others r (List.mem_append_right _ after)

theorem busyRun_scan_timerExpired (run : s.link.state = .run) (line : s.link.lineConnected = true)
    (flying : s.tx.inflight ≠ none) :
    scan (some .timerExpired) s = some (dr22.fire none { s with disp.scanIndex := 22 }) :=
  scanFrom_append (dr22_applies run) fun r mem =>
    busyRun_applies_of_not_dr22 run line flying (.inr rfl) r (List.mem_append_left _ mem)

theorem dr22_fire : dr22.fire pkt s = .go { setSREP s with link.state := .run } := rfl

/-- The expiry sets SREP and nothing else: REP waits until the transmitter is idle. -/
theorem busyRun_dispatch_timerExpired (ready : Ready s) (run : s.link.state = .run) (line : s.link.lineConnected = true)
    (flying : s.tx.inflight ≠ none) : dispatch .timerExpired s = .go { s with link.srep := true } := by
  have rest : s.disp = restingDispatcher := ready.1
  have fired := busyRun_scan_timerExpired (s := firstScan .timerExpired s) run line flying
  rw [dr22_fire] at fired
  rw [dispatch_fires ready _ fired (by simp [firstScan, rest, restingDispatcher]) (busyRun_quiescent rfl line flying)]
  simp only [setSREP, firstScan, enterDispatch, ← rest, ← run]

end

/-! ### The obligation -/

/-- Settles O18: the two writes of the timer; the tick after any kick that answers, by `exec_tick_cases`; and the tick whose
kick changes nothing, with the expiry that DR22 takes. -/
theorem timerStartsStopsAndTicks : Obligations.TimerStartsStopsAndTicks := by
  refine ⟨fun s => ⟨exec_startTimer s, exec_stopTimer s⟩,
    fun s => ⟨fun fatal => ?fatal, fun live t kicked => exec_tick_cases live kicked, fun live idle => ?idle⟩⟩
  case fatal => rw [exec_tick, tick_of_fatal fatal]; rfl
  case idle =>
    obtain ⟨stopped, counting, last⟩ := exec_tick_cases live (exec_txKick_of_idle live idle)
    refine ⟨stopped, counting, last, fun running one rest run line flying => ?_⟩
    rw [last running one, exec_dispatch, busyRun_dispatch_timerExpired
      (s := { s with timer := { running := false, remaining := 0 } }) ⟨rest, live⟩ run line flying]
    rfl

end Sys2Proof.Proofs.Timer

/-! SUPPORT. The dispatcher (46_dispatch_engine.md R213 to R221): the pending mask and its priority, the entry that a scan fires,
and the loop of a dispatch without its bound. -/

namespace Sys2Proof.Proofs.Dispatch

open Sys2Proof.Machine Sys2Proof.Laws Sys2Proof.Proofs.Timer

/-! ### The pending mask (R37, R213) -/

@[simp] theorem pendingHas_pendingSet (m : EventMask) (e k : EventKind) (b : Bool) :
    pendingHas (pendingSet m e b) k = if k = e then b else pendingHas m k := by
  cases e <;> cases k <;> rfl

/-- An event that is merged is pending, and so is what was pending before it (R215). -/
theorem pendingHas_merged (m : EventMask) (e k : EventKind) :
    pendingHas (pendingSet m e true) k = (pendingHas m k || k == e) := by
  rw [pendingHas_pendingSet]
  by_cases same : k = e <;> simp [same]

theorem mem_eventPriority (e : EventKind) : e ∈ eventPriority := by
  cases e <;> decide

/-- The first element with a property is the one before which no element has it. -/
theorem find?_eq_some_iff_takeWhile {α : Type} [DecidableEq α] {p : α → Bool} {x : α} :
    ∀ {l : List α}, x ∈ l →
      (l.find? p = some x ↔ p x = true ∧ ∀ y ∈ l.takeWhile (fun z => z != x), p y = false)
  | y :: l, mem => by
    by_cases here : y = x
    · subst here
      cases has : p y with
      | true => simp [has]
      | false =>
        have notFound : l.find? p ≠ some y := fun found => by simpa [has] using List.find?_some found
        simp [has, notFound]
    · have ih := find?_eq_some_iff_takeWhile (p := p) (List.mem_of_ne_of_mem (Ne.symm here) mem)
      cases has : p y <;> simp [has, here, ih]

theorem pendingFirst_eq_some_iff (m : EventMask) (e : EventKind) :
    pendingFirst m = some e ↔
      pendingHas m e = true ∧ ∀ k ∈ eventPriority.takeWhile (fun k => k != e), pendingHas m k = false :=
  find?_eq_some_iff_takeWhile (mem_eventPriority e)

theorem eq_noEvents_iff (m : EventMask) : m = noEvents ↔ ∀ k, pendingHas m k = false := by
  refine ⟨?_, fun none => ?_⟩
  · rintro rfl k
    cases k <;> rfl
  · cases m
    rw [noEvents, EventMask.mk.injEq]
    exact ⟨none .userHalt, none .userMaintenanceMode, none .userStartup, none .lineStatusChange, none .timerExpired,
      none .transmitDone, none .packetReceived, none .hostQueueChange⟩

theorem pendingFirst_eq_none_iff (m : EventMask) : pendingFirst m = none ↔ m = noEvents := by
  simp [pendingFirst, eq_noEvents_iff, mem_eventPriority]

/-! ### The guard of a dispatch (R215) -/

section
variable {s : State}

theorem dispatch_of_fatal (fatal : s.latch.fatal = true) (e : EventKind) : dispatch e s = .go s := if_pos fatal

theorem dispatch_of_scanning (live : s.latch.fatal = false) (scanning : s.disp.scanning = true) (e : EventKind) :
    dispatch e s = .go (postEvent e s) := by
  simp [dispatch, live, scanning]

theorem dispatch_of_idle (live : s.latch.fatal = false) (idle : s.disp.scanning = false) (e : EventKind) :
    dispatch e s = dispatchLoop (budget s) (some e) (enterDispatch s) := by
  simp [dispatch, live, idle]

end

/-- Settles O20: the guard of `dispatch`, case by case, and `pendingFirst` as the first kind in `eventPriority`. -/
theorem dispatchGuardPostsAndPendingIsTakenByPriority :
    Obligations.DispatchGuardPostsAndPendingIsTakenByPriority := by
  refine ⟨fun e s => ⟨fun fatal => ?fatal, fun live scanning => ?posted⟩,
    fun m => ⟨pendingFirst_eq_some_iff m, pendingFirst_eq_none_iff m⟩⟩
  case fatal => rw [exec_dispatch, dispatch_of_fatal fatal]; rfl
  case posted =>
    refine ⟨postEvent e s, ?_, rfl, pendingHas_merged s.disp.pending e⟩
    rw [exec_dispatch, dispatch_of_scanning live scanning]
    rfl

/-! ### The entry that a scan fires (R217, R218) -/

/-- The part of a scan from table position `k` on fires the first entry that matches, its position in `scan_index`. -/
theorem scanFrom_eq_some_iff {ev : Option EventKind} {pkt : Option RxPkt} {s : State} {f : Flow} :
    ∀ {l : List Rule} {k : Nat}, scanFrom ev pkt s k l = some f ↔
      ∃ (j : Nat) (r : Rule), l[j]? = some r ∧ r.applies ev pkt s = true ∧
        (∀ (i : Nat) (r' : Rule), i < j → l[i]? = some r' → r'.applies ev pkt s = false) ∧
        f = r.fire pkt { s with disp.scanIndex := k + j }
  | [], k => by simp [scanFrom]
  | q :: l, k => by
    cases matched : q.applies ev pkt s with
    | true =>
      have fires : scanFrom ev pkt s k (q :: l) = some (q.fire pkt { s with disp.scanIndex := k }) := if_pos matched
      rw [fires, Option.some_inj]
      refine ⟨fun same => ⟨0, q, rfl, matched, fun _ _ before => absurd before (Nat.not_lt_zero _), same.symm⟩, ?_⟩
      rintro ⟨j, r, at_j, _, before, rfl⟩
      match j with
      | 0 => cases at_j; rfl
      | j + 1 => exact absurd (before 0 q (Nat.succ_pos j) rfl) (by simp [matched])
    | false =>
      have goesOn : scanFrom ev pkt s k (q :: l) = scanFrom ev pkt s (k + 1) l := if_neg (by simp [matched])
      rw [goesOn, scanFrom_eq_some_iff]
      constructor
      · rintro ⟨j, r, at_j, applies, before, rfl⟩
        refine ⟨j + 1, r, at_j, applies, fun i r' lt at_i => ?_, by rw [Nat.add_right_comm, Nat.add_assoc]⟩
        match i with
        | 0 => cases at_i; exact matched
        | i + 1 => exact before i r' (Nat.lt_of_succ_lt_succ lt) at_i
      · rintro ⟨j, r, at_j, applies, before, rfl⟩
        match j with
        | 0 => cases at_j; exact absurd applies (by simp [matched])
        | j + 1 =>
          exact ⟨j, r, at_j, applies, fun i r' lt at_i => before (i + 1) r' (Nat.succ_lt_succ lt) at_i,
            by rw [Nat.add_right_comm, Nat.add_assoc]⟩

section
variable {r : Rule} {pkt : Option RxPkt} {s s1 : State}

theorem fire_of_go (done : runActions (r.actions pkt) s = .go s1) :
    r.fire pkt s = .go { s1 with link.state := r.newState } := by
  rw [Rule.fire, done]
  rfl

theorem fire_of_ended (ended : runActions (r.actions pkt) s = .ended s1) : r.fire pkt s = .ended s1 := by
  rw [Rule.fire, ended]
  rfl

end

/-- Settles O21: `scanFrom_eq_some_iff` from position 0, `scan_eq_none`, and the two ways a firing goes. -/
theorem scanFiresTheFirstMatchingRule : Obligations.ScanFiresTheFirstMatchingRule := by
  refine ⟨fun ev s f => ?_, scan_eq_none, fun r pkt s s1 => ⟨fire_of_go, fire_of_ended⟩⟩
  simp only [scan, scanFrom_eq_some_iff, Nat.zero_add]

/-! ### The loop of a dispatch without its bound (R216) -/

/-- A run of the bounded loop that does not meet its bound is a run of the loop. -/
theorem loops_of_dispatchLoop : ∀ {n : Nat} {ev : Option EventKind} {s t : State},
    (dispatchLoop n ev s).outcome = .next t → Loops ev s t
  | 0, _, _, _, answered => nomatch answered
  | n + 1, ev, s, t, answered => by
    simp only [dispatchLoop] at answered
    split at answered
    next s1 ended => cases answered; exact .fatal ended
    next => cases answered
    next s1 fired =>
      split at answered
      next e pending => exact .firedPending fired pending (loops_of_dispatchLoop answered)
      next empty => exact .firedRescan fired empty (loops_of_dispatchLoop answered)
    next quiet =>
      split at answered
      next e pending => exact .idlePending quiet pending (loops_of_dispatchLoop answered)
      next empty => cases answered; exact .leave quiet empty

/-- Settles O22: past the guard a dispatch is the bounded loop, entered with `Scanning` set. -/
theorem dispatchFollowsTheLoop : Obligations.DispatchFollowsTheLoop := by
  intro e s t live idle answered
  rw [exec_dispatch, dispatch_of_idle live idle] at answered
  exact loops_of_dispatchLoop answered

end Sys2Proof.Proofs.Dispatch

/-! SUPPORT. Where the fatal latch comes from (60_exceptions.md R346): whatever piece of a kick or of a dispatch runs, it ends
the step by `raise Fatal`, or the step goes on with `fatal` as it was. The actions take the `tx_kick` that they call as an
argument, so each statement about them asks the same of that. That the timer is stopped where a step ends (`EndsStopped`) does
not say this: a timer can be stopped where no step has ended. -/

namespace Sys2Proof.Proofs.FatalLatch

open Sys2Proof.Machine Sys2Proof.Proofs.Dispatch

/-- The state is what `raise Fatal` leaves. -/
def Raised (t : State) : Prop := ∃ cause s, t = raiseFatal cause s

/-- How a piece of a step comes out that began with `fatal = b`. -/
def LatchFollows (b : Bool) : Flow → Prop
  | .go t => t.latch.fatal = b
  | .ended t => Raised t
  | .overrun => True

/-- This piece of a step leaves `fatal` as it is, unless it ends the step by `raise Fatal`. -/
def KeepsFatal (f : State → Flow) : Prop := ∀ s, LatchFollows s.latch.fatal (f s)

theorem Raised.fatal {t : State} (raised : Raised t) : t.latch.fatal = true := by
  obtain ⟨cause, s, rfl⟩ := raised
  exact (raiseFatal_halts cause s).1

theorem raised_raiseFatal (cause : FatalCause) (s : State) : Raised (raiseFatal cause s) := ⟨cause, s, rfl⟩

/-! ### The shared operations do not write the latch -/

section
variable (s : State)

@[simp] theorem enqueue_latch (x : QueueArg) : (enqueue x s).2.latch = s.latch := by
  cases x <;> rfl

@[simp] theorem pushFront_latch (x : QueueArg) : (pushFront x s).2.latch = s.latch := by
  cases x <;> rfl

@[simp] theorem release_latch (h : Handle) : (release h s).latch = s.latch := enqueue_latch s _

@[simp] theorem releaseItem_latch (i : TxItem) : (releaseItem i s).latch = s.latch := by
  unfold releaseItem
  split <;> simp

@[simp] theorem complete_latch (h : Handle) (len : BitVec 14) (code : EventCode) :
    (complete h len code s).latch = s.latch := enqueue_latch _ _

@[simp] theorem notify_latch (code : EventCode) : (notify code s).latch = s.latch := by
  unfold notify
  split <;> simp

theorem foldl_latch {α : Type} {f : State → α → State} (hf : ∀ s x, (f s x).latch = s.latch) :
    ∀ (l : List α) (s : State), (l.foldl f s).latch = s.latch
  | [], _ => rfl
  | x :: l, s => (foldl_latch hf l (f s x)).trans (hf s x)

@[simp] theorem requeueOne_latch (h : Handle) : (requeueOne s h).latch = s.latch := pushFront_latch _ _

@[simp] theorem requeueAckWait_latch : (requeueAckWait s).latch = s.latch := foldl_latch requeueOne_latch _ _

@[simp] theorem resetVariables_latch : (resetVariables s).latch = s.latch :=
  (foldl_latch (fun t i => releaseItem_latch t i) _ _).trans (requeueAckWait_latch _)

theorem completeLoop_latch (resp : Byte) : ∀ (n : Nat) (s : State), (completeLoop resp n s).latch = s.latch
  | 0, _ => rfl
  | n + 1, s => by
    simp only [completeLoop]
    split
    · rfl
    · split
      · rw [completeLoop_latch resp n, complete_latch]
      · rfl

@[simp] theorem completeAcked_latch (resp : Byte) : (completeAcked resp s).latch = s.latch :=
  completeLoop_latch resp _ s

@[simp] theorem deliver_latch (h : Handle) (rest : List Handle) (pkt : Packet) (code : EventCode) :
    (deliver h rest pkt code s).latch = s.latch := complete_latch _ _ _ _

@[simp] theorem giveBufferToUser_latch (pkt : Packet) : (giveBufferToUser pkt s).latch = s.latch := by
  unfold giveBufferToUser
  split
  · simp
  · split <;> simp

@[simp] theorem deliverMaintToHost_latch (pkt : Packet) : (deliverMaintToHost pkt s).latch = s.latch := by
  unfold deliverMaintToHost
  split
  · rfl
  · split <;> simp

@[simp] theorem bumpT_latch : (bumpT s).latch = s.latch := by
  unfold bumpT
  split <;> rfl

@[simp] theorem stopTimerIfAGeX_latch : (stopTimerIfAGeX s).latch = s.latch := by
  unfold stopTimerIfAGeX
  split <;> rfl

@[simp] theorem startOrStopTimerByAX_latch : (startOrStopTimerByAX s).latch = s.latch := by
  unfold startOrStopTimerByAX
  split <;> rfl

@[simp] theorem offerFrame_latch (b : List Byte) : (offerFrame b s).2.latch = s.latch := by
  rw [offerFrame_boundary]

@[simp] theorem heard_latch (b : List Byte) : (heard b s).2.latch = s.latch := by
  have chosen : (corruptionChoice s).2.latch = s.latch := by
    rw [corruptionChoice_update (s := s) (t := s) rfl rfl]
  simp only [heard]
  split <;> exact chosen

@[simp] theorem landFlight_latch (i : TxItem) : (landFlight i s).latch = s.latch := releaseItem_latch _ _

@[simp] theorem dispatchScanning_latch (e : EventKind) : (dispatchScanning e s).latch = s.latch := by
  unfold dispatchScanning
  split <;> rfl

@[simp] theorem receiveScanning_latch (b : List Byte) : (receiveScanning s b).latch = s.latch := by
  simp only [receiveScanning]
  split
  · rfl
  · split <;> simp

end

theorem kickScanning_latch : ∀ (n : Nat) (s : State), (kickScanning n s).latch = s.latch
  | 0, _ => rfl
  | n + 1, s => by
    simp only [kickScanning]
    split
    · rfl
    · split
      · rfl
      · split
        · simp
        · simp
        · simp [kickScanning_latch n]
        · split <;> simp [kickScanning_latch n, foldl_latch receiveScanning_latch]

/-! ### Sequences, actions and entries -/

theorem LatchFollows.andThen {b : Bool} {f : Flow} {g : State → Flow} (hf : LatchFollows b f)
    (hg : ∀ t, t.latch.fatal = b → LatchFollows b (g t)) : LatchFollows b (f.andThen g) := by
  cases f with
  | go t => exact hg t hf
  | ended t => exact hf
  | overrun => trivial

/-- A piece run in a state whose `fatal` is known. -/
theorem KeepsFatal.latchFollows {f : State → Flow} (hf : KeepsFatal f) {b : Bool} {s : State} (hs : s.latch.fatal = b) :
    LatchFollows b (f s) := hs ▸ hf s

theorem KeepsFatal.andThen {f g : State → Flow} (hf : KeepsFatal f) (hg : KeepsFatal g) :
    KeepsFatal fun s => (f s).andThen g :=
  fun s => (hf s).andThen fun _ same => hg.latchFollows same

theorem keepsFatal_runActions : ∀ {l : List (State → Flow)}, (∀ a ∈ l, KeepsFatal a) → KeepsFatal (runActions l)
  | [], _ => fun _ => rfl
  | a :: _, h => (h a List.mem_cons_self).andThen (keepsFatal_runActions fun b hb => h b (List.mem_cons_of_mem a hb))

theorem keepsFatal_go_iff {f : State → State} :
    (KeepsFatal fun s => .go (f s)) ↔ ∀ s, (f s).latch.fatal = s.latch.fatal := Iff.rfl

section
variable {kick : State → Flow} (hk : KeepsFatal kick)

@[simp] theorem keepsFatal_act_iff {f : State → State} :
    KeepsFatal (act f) ↔ ∀ s, (f s).latch.fatal = s.latch.fatal := Iff.rfl

@[simp] theorem keepsFatal_start : KeepsFatal start := fun _ => rfl

@[simp] theorem keepsFatal_stop : KeepsFatal stop := fun _ => rfl

@[simp] theorem keepsFatal_onPacket {f : Packet → State → Flow} (hf : ∀ p, KeepsFatal (f p)) (pkt : Option RxPkt) :
    KeepsFatal (onPacket pkt f) := by
  match pkt with
  | some (.packet p) => exact hf p
  | some (.error _) => exact fun _ => rfl
  | none => exact fun _ => rfl

@[simp] theorem keepsFatal_onError {f : BitVec 6 → State → Flow} (hf : ∀ r, KeepsFatal (f r)) (pkt : Option RxPkt) :
    KeepsFatal (onError pkt f) := by
  match pkt with
  | some (.error r) => exact hf r
  | some (.packet _) => exact fun _ => rfl
  | none => exact fun _ => rfl

include hk

theorem keepsFatal_sendControl (b : State → List Byte) : KeepsFatal fun s => sendControl kick (b s) s := by
  intro s
  cases hf : s.pool.free with
  | nil => simp only [sendControl, alloc_nil _ hf]; exact raised_raiseFatal _ _
  | cons h rest => simp only [sendControl_cons kick _ hf]; exact hk.latchFollows rfl

@[simp] theorem keepsFatal_sendStrt : KeepsFatal (sendStrt kick) := keepsFatal_sendControl hk _

@[simp] theorem keepsFatal_sendStack : KeepsFatal (sendStack kick) := keepsFatal_sendControl hk _

@[simp] theorem keepsFatal_sendAck : KeepsFatal (sendAck kick) := keepsFatal_sendControl hk _

@[simp] theorem keepsFatal_sendNak : KeepsFatal (sendNak kick) := keepsFatal_sendControl hk _

@[simp] theorem keepsFatal_sendRep : KeepsFatal (sendRep kick) := keepsFatal_sendControl hk _

@[simp] theorem keepsFatal_sendMaintMessage : KeepsFatal (sendMaintMessage kick) := by
  intro s
  simp only [sendMaintMessage]
  split
  · rfl
  · exact hk.latchFollows (by simp)

@[simp] theorem keepsFatal_sendNewData : KeepsFatal (sendNewData kick) := by
  intro s
  simp only [sendNewData]
  split
  · rfl
  · exact hk.latchFollows (by simp)

@[simp] theorem keepsFatal_retransmitT : KeepsFatal (retransmitT kick) := by
  intro s
  simp only [retransmitT]
  split
  · exact raised_raiseFatal _ _
  · exact (hk.latchFollows rfl).andThen fun _ same => same

theorem keepsFatal_nakLoop : ∀ (n : Nat) (k : Byte), KeepsFatal (nakLoop kick n k)
  | 0, _ => fun _ => rfl
  | n + 1, k =>
    (keepsFatal_sendControl hk fun s => buildNak s.cfg.gapNakReason k s.cfg.ctlFlags).andThen
      (keepsFatal_nakLoop n (inc k))

@[simp] theorem keepsFatal_nakMissing (num : Byte) : KeepsFatal (nakMissing kick num) :=
  fun s => keepsFatal_nakLoop hk _ _ s

/-- Every action that an entry of the table lists. -/
theorem keepsFatal_actions (pkt : Option RxPkt) :
    ∀ r ∈ ruleTable kick, ∀ a ∈ r.actions pkt, KeepsFatal a := by
  simp [ruleTable, dr00, dr01, dr02, dr03, dr04, dr05, dr06, dr07, dr08, dr09, dr10, dr11, dr12, dr13, dr14, dr15, dr16,
    dr17, dr18, dr19, dr20, dr21, dr22, dr23, dr24, dr25, dr26, dr27, dr28, hk, keepsFatal_go_iff, setSNAKFromError,
    notifyDisconnect, notifyStartReceived, notifyMaintReceived]

theorem keepsFatal_fire (pkt : Option RxPkt) {r : Rule} (hr : r ∈ ruleTable kick) : KeepsFatal (r.fire pkt) :=
  (keepsFatal_runActions (keepsFatal_actions hk pkt r hr)).andThen fun _ => rfl

end

/-! ### The dispatcher and the transmitter -/

theorem keepsFatal_kickInDispatch : KeepsFatal kickInDispatch :=
  fun s => congrArg Latches.fatal (kickScanning_latch _ s)

theorem latchFollows_scan {ev : Option EventKind} {s : State} {f : Flow} (fired : scan ev s = some f) :
    LatchFollows s.latch.fatal f := by
  obtain ⟨k, r, at_k, _, _, rfl⟩ := scanFrom_eq_some_iff.mp fired
  exact (keepsFatal_fire keepsFatal_kickInDispatch _ (List.mem_of_getElem? at_k)).latchFollows rfl

theorem keepsFatal_dispatchLoop : ∀ (n : Nat) (ev : Option EventKind), KeepsFatal (dispatchLoop n ev)
  | 0, _ => fun _ => trivial
  | n + 1, ev => by
    intro s
    simp only [dispatchLoop]
    split
    next s1 scanned =>
      have raised := latchFollows_scan scanned
      exact raised
    next => trivial
    next s1 scanned =>
      have same := latchFollows_scan scanned
      split
      · exact (keepsFatal_dispatchLoop n _).latchFollows same
      · exact (keepsFatal_dispatchLoop n _).latchFollows same
    next =>
      split
      · exact (keepsFatal_dispatchLoop n _).latchFollows rfl
      · rfl

theorem keepsFatal_dispatch (e : EventKind) : KeepsFatal (dispatch e) := by
  intro s
  simp only [dispatch]
  split
  · rfl
  · split
    · rfl
    · exact (keepsFatal_dispatchLoop _ _).latchFollows rfl

theorem keepsFatal_onReceive (b : List Byte) : KeepsFatal (onReceive b) := by
  intro s
  have same : (heard b s).2.latch.fatal = s.latch.fatal := congrArg Latches.fatal (heard_latch s b)
  simp only [onReceive]
  split
  · rfl
  · split
    · exact (keepsFatal_dispatch _).latchFollows same
    · exact same

theorem keepsFatal_kickIdle : ∀ n : Nat, KeepsFatal (kickIdle n)
  | 0 => fun _ => trivial
  | n + 1 => by
    have landed : ∀ item, KeepsFatal fun s => (dispatch .transmitDone (landFlight item s)).andThen (kickIdle n) :=
      fun item => KeepsFatal.andThen
        (fun s => (keepsFatal_dispatch .transmitDone).latchFollows (congrArg Latches.fatal (landFlight_latch s item)))
        (keepsFatal_kickIdle n)
    intro s
    simp only [kickIdle]
    split
    next => rfl
    next =>
      split
      next => rfl
      next item rest _ =>
        have offered : (offerFrame item.bytes s).2.latch.fatal = s.latch.fatal :=
          congrArg Latches.fatal (offerFrame_latch s item.bytes)
        split
        next => exact offered
        next => exact offered
        next => exact (landed item).latchFollows offered
        next frames completes _ =>
          have received : KeepsFatal (runActions (frames.map onReceive)) :=
            keepsFatal_runActions (by simp [keepsFatal_onReceive])
          have begun : (takeFlight item rest (offerFrame item.bytes s).2).latch.fatal = s.latch.fatal := offered
          refine (received.latchFollows begun).andThen fun t same => ?_
          split
          · exact (landed item).latchFollows same
          · exact same

theorem keepsFatal_txKick : KeepsFatal txKick := by
  intro s
  simp only [txKick]
  split
  · exact keepsFatal_kickInDispatch s
  · exact keepsFatal_kickIdle _ s

/-- What is written after a piece that answers is written where it did not end the step: there, and only there, `fatal` is
still 0. -/
theorem outcome_andThen_go {f : State → Flow} (hf : KeepsFatal f) {s t : State} (live : s.latch.fatal = false)
    (answered : (f s).outcome = .next t) (g : State → State) :
    ((f s).andThen fun s1 => .go (g s1)).outcome = .next (if t.latch.fatal = true then t else g t) := by
  have follows := hf s
  cases hfs : f s with
  | go t1 =>
    rw [hfs] at follows answered
    cases answered
    have still : t.latch.fatal = false := follows.trans live
    rw [still]
    rfl
  | ended t1 =>
    rw [hfs] at follows answered
    cases answered
    rw [if_pos (Raised.fatal follows)]
    rfl
  | overrun => rw [hfs] at answered; cases answered

end Sys2Proof.Proofs.FatalLatch

/-! SUPPORT. The actions as instructions (46_dispatch_engine.md R230 to R256): the latches and variables they write, the buffers
they complete and fill, and the frames they stage and kick. -/

namespace Sys2Proof.Proofs.Actions

open Sys2Proof.Machine Sys2Proof.Laws Sys2Proof.Proofs.Timer Sys2Proof.Proofs.FatalLatch

/-! ### The latch actions (R233 to R238, R253) -/

section
variable (s : State)

theorem exec_setSACK : exec .setSACK s = .next (setSACK s) := rfl

theorem exec_setSNAK (r : BitVec 6) : exec (.setSNAK r) s = .next (setSNAK r s) := rfl

theorem exec_setSNAKFromError (r : BitVec 6) : exec (.setSNAKFromError r) s = .next (setSNAK r s) := rfl

theorem exec_clearSNAK : exec .clearSNAK s = .next (clearSNAK s) := rfl

theorem exec_setSREP : exec .setSREP s = .next (setSREP s) := rfl

theorem exec_clearSREP : exec .clearSREP s = .next (clearSREP s) := rfl

theorem exec_clearSACK : exec .clearSACK s = .next (clearSACK s) := rfl

theorem exec_clearStartReceived : exec .clearStartReceived s = .next (clearStartReceived s) := rfl

end

/-- Settles O39: each instruction is its latch action, whose definition is the write of its rule. -/
theorem latchActionsWriteTheirLatches : Obligations.LatchActionsWriteTheirLatches :=
  fun s => ⟨exec_setSACK s, exec_setSNAK s, exec_setSNAKFromError s, exec_clearSNAK s, exec_setSREP s, exec_clearSREP s,
    exec_clearSACK s, exec_clearStartReceived s⟩

/-! ### The actions on T, X and the timer (R242, R243, R251) -/

theorem seqLE_iff {w : Nat} {a b : Byte} : seqLE w a b = true ↔ seqCmp a b w ≠ 1 := bne_iff_ne

theorem seqGE_iff {w : Nat} {a b : Byte} : seqGE w a b = true ↔ seqCmp a b w ≠ -1 := bne_iff_ne

theorem seqLT_iff {w : Nat} {a b : Byte} : seqLT w a b = true ↔ seqCmp a b w = -1 := beq_iff_eq

section
variable (s : State)

theorem exec_bumpT : exec .bumpT s = .next (bumpT s) := rfl

theorem exec_setTToAplus1 : exec .setTToAplus1 s = .next (setTToAplus1 s) := rfl

theorem exec_stopTimerIfAGeX : exec .stopTimerIfAGeX s = .next (stopTimerIfAGeX s) := rfl

theorem exec_setXToSentNum : exec .setXToSentNum s = .next (setXToSentNum s) := rfl

theorem exec_startOrStopTimerByAX : exec .startOrStopTimerByAX s = .next (startOrStopTimerByAX s) := rfl

theorem bumpT_eq : bumpT s =
    if seqCmp s.link.t s.link.a s.cfg.window ≠ 1 then { s with link.t := s.link.a + 1 } else s := by
  simp only [bumpT, seqLE_iff, inc]

theorem stopTimerIfAGeX_eq : stopTimerIfAGeX s =
    if seqCmp s.link.a s.link.x s.cfg.window ≠ -1 then { s with timer.running := false } else s := by
  simp only [stopTimerIfAGeX, seqGE_iff, stopTimer]

theorem startOrStopTimerByAX_eq : startOrStopTimerByAX s = { s with
    timer := if seqCmp s.link.a s.link.x s.cfg.window = -1 then { running := true, remaining := s.cfg.pktTimeout }
             else { s.timer with running := false } } := by
  simp only [startOrStopTimerByAX, seqLT_iff]
  split <;> rfl

end

/-- Settles O40: each action with the comparator of R160 for its condition. -/
theorem variableActionsFollowTheComparator : Obligations.VariableActionsFollowTheComparator := by
  refine fun s => ⟨?bumpT, exec_setTToAplus1 s, ?stopTimer, exec_setXToSentNum s, ?startOrStopTimer⟩
  case bumpT => rw [exec_bumpT, bumpT_eq]
  case stopTimer => rw [exec_stopTimerIfAGeX, stopTimerIfAGeX_eq]
  case startOrStopTimer => rw [exec_startOrStopTimerByAX, startOrStopTimerByAX_eq]

/-! ### The acknowledged head part of `ack_wait` (R241) -/

theorem exec_completeAcked (p : Packet) (s : State) : exec (.completeAcked p) s = .next (completeAcked p.resp s) := rfl

theorem isAcked_iff {s : State} {resp : Byte} {h : Handle} :
    isAcked s.cfg.window s.pool resp h = true ↔ seqCmp (descOf s h).seq resp s.cfg.window ≠ 1 := seqLE_iff

theorem isAcked_eq_false_iff {s : State} {resp : Byte} {h : Handle} :
    isAcked s.cfg.window s.pool resp h = false ↔ seqCmp (descOf s h).seq resp s.cfg.window = 1 := by
  rw [← Bool.not_eq_true, isAcked_iff, not_not]

/-- Settles O42: what is completed is the longest head part of `ack_wait` whose buffers are all acknowledged. -/
theorem completeAckedTakesThePrefix : Obligations.CompleteAckedTakesThePrefix := by
  intro s p room
  refine ⟨_, _, (List.takeWhile_append_dropWhile (p := isAcked s.cfg.window s.pool p.resp)).symm,
    fun h mem => isAcked_iff.mp (List.mem_takeWhile_imp mem), fun h head => isAcked_eq_false_iff.mp ?stops, ?completes⟩
  case stops =>
    have first := List.head?_dropWhile_not (isAcked s.cfg.window s.pool p.resp) s.pool.ackWait
    rwa [head] at first
  case completes =>
    rw [exec_completeAcked, completeAcked_room p.resp room]
    rfl

/-! ### Deliveries (R244, R255) -/

/-- Bytes written one after the other are read back, and every other byte is as before (R68). -/
theorem memRead_memWriteBytes : ∀ (bs : List Byte) {m : Memory} (start a : Nat), m.wf = true →
    memRead (memWriteBytes m start bs) a =
      if start ≤ a ∧ a < start + bs.length then bs.getD (a - start) 0 else memRead m a
  | [], m, start, a, _ => by
    rw [if_neg (by simp), memWriteBytes]
  | b :: bs, m, start, a, wf => by
    rw [memWriteBytes, memRead_memWriteBytes bs (start + 1) a (memWrite_wf m start b wf), memRead_memWrite m start a b wf,
      List.length_cons]
    rcases Nat.lt_trichotomy a start with below | rfl | above
    · rw [if_neg (by omega), if_neg (by omega), if_neg (by omega)]
    · rw [if_neg (by omega), if_pos rfl, if_pos (by omega), Nat.sub_self, List.getD_cons_zero]
    · have next : a - start = a - (start + 1) + 1 := by omega
      have same : (start + 1 ≤ a ∧ a < start + 1 + bs.length) ↔ (start ≤ a ∧ a < start + (bs.length + 1)) := by omega
      rw [if_neg above.ne', next, List.getD_cons_succ]
      simp only [same]

section
variable {s : State} {p : Packet} {h : Handle} {rest : List Handle}

theorem exec_giveBufferToUser : exec (.giveBufferToUser p) s = .next (giveBufferToUser p s) := rfl

theorem exec_deliverMaintToHost : exec (.deliverMaintToHost p) s = .next (deliverMaintToHost p s) := rfl

theorem giveBufferToUser_nil (empty : s.pool.receive = []) : giveBufferToUser p s = setSNAK 8 s := by
  rw [giveBufferToUser, empty]
  rfl

theorem deliverMaintToHost_nil (empty : s.pool.receive = []) : deliverMaintToHost p s = s := by
  rw [deliverMaintToHost, empty]

theorem giveBufferToUser_short (cons : s.pool.receive = h :: rest)
    (short : (descOf s h).length.toNat < p.count.toNat) : giveBufferToUser p s = setSNAK 16 s := by
  simp only [giveBufferToUser, cons, if_pos short]
  rfl

theorem deliverMaintToHost_short (cons : s.pool.receive = h :: rest)
    (short : (descOf s h).length.toNat < p.count.toNat) : deliverMaintToHost p s = s := by
  simp only [deliverMaintToHost, cons, if_pos short]

theorem giveBufferToUser_fits (cons : s.pool.receive = h :: rest) (fits : p.count.toNat ≤ (descOf s h).length.toNat)
    (room : s.pool.completion.length ≠ s.cfg.window + 4) :
    giveBufferToUser p s = setSACK { delivered h rest p .rxBufferComplete s with link.r := s.link.r + 1 } := by
  simp only [giveBufferToUser, cons, if_neg fits.not_gt, deliver_room h rest p _ room]
  rfl

theorem deliverMaintToHost_fits (cons : s.pool.receive = h :: rest) (fits : p.count.toNat ≤ (descOf s h).length.toNat)
    (room : s.pool.completion.length ≠ s.cfg.window + 4) :
    deliverMaintToHost p s = delivered h rest p .maintBufferComplete s := by
  simp only [deliverMaintToHost, cons, if_neg fits.not_gt, deliver_room h rest p _ room]

end

/-- Settles O43: both deliveries without a buffer, with one too short, and with one that the payload fits. -/
theorem deliveryActionsFillTheBuffer : Obligations.DeliveryActionsFillTheBuffer := by
  intro s p payload
  simp only [exec_giveBufferToUser, exec_deliverMaintToHost]
  refine ⟨fun empty => ?empty, fun h rest cons => ⟨fun short => ?short, fun fits room => ?fits⟩⟩
  case empty => rw [giveBufferToUser_nil empty, deliverMaintToHost_nil empty]; exact ⟨rfl, rfl⟩
  case short => rw [giveBufferToUser_short cons short, deliverMaintToHost_short cons short]; exact ⟨rfl, rfl⟩
  case fits =>
    rw [giveBufferToUser_fits cons fits room, deliverMaintToHost_fits cons fits room]
    refine ⟨memWriteBytes s.env.mem (descOf s h).address p.payload, fun wf => ⟨memWriteBytes_wf _ _ _ wf, fun a => ?_⟩,
      rfl, rfl⟩
    rw [memRead_memWriteBytes _ _ a wf, payload]

/-! ### Actions of a link that is not fatal -/

section
variable {s : State}

theorem unlessFatal_of_live (live : s.latch.fatal = false) (f : State → Flow) : unlessFatal f s = f s :=
  if_neg (by simp [live])

/-- An action that stages frames or discards them, given on its own. -/
theorem outcome_unlessFatal (live : s.latch.fatal = false) (f : State → Flow) :
    (unlessFatal f s).outcome = (f s).outcome := by
  rw [unlessFatal_of_live live]

theorem exec_resetVariables (live : s.latch.fatal = false) : exec .resetVariables s = .next (resetVariables s) :=
  outcome_unlessFatal live _

theorem exec_sendNewData (live : s.latch.fatal = false) : exec .sendNewData s = (sendNewData txKick s).outcome :=
  outcome_unlessFatal live _

theorem exec_retransmitT (live : s.latch.fatal = false) : exec .retransmitT s = (retransmitT txKick s).outcome :=
  outcome_unlessFatal live _

theorem exec_sendMaintMessage (live : s.latch.fatal = false) :
    exec .sendMaintMessage s = (sendMaintMessage txKick s).outcome :=
  outcome_unlessFatal live _

theorem exec_nakMissing (live : s.latch.fatal = false) (p : Packet) :
    exec (.nakMissing p) s = (nakMissing txKick p.num s).outcome :=
  outcome_unlessFatal live _

end

/-- Settles O41: `resetVariables_room`, both queues having room for what moves into them. -/
theorem resetVariablesFreshensTheLink : Obligations.ResetVariablesFreshensTheLink := by
  intro s live roomTransmit roomFree
  rw [exec_resetVariables live, resetVariables_room roomTransmit roomFree]
  rfl

/-! ### Staging a frame, then kicking (R310) -/

/-- An instruction that stages one frame and then kicks. -/
theorem kicks_and_sends {o : Host.Outcome State Fault Refusal} {staged : State} (live : staged.latch.fatal = false)
    (kicks : o = (txKick staged).outcome) : o = exec .txKick staged ∧ Sends o staged :=
  ⟨kicks.trans (exec_txKick live).symm, kicks ▸ sends_kick staged⟩

/-- The buffer numbered T staged again, T itself not yet moved on: where `RetransmitT` kicks (R246). -/
def beforeBump (h : Handle) (s : State) : State := { restagedData h s with link.t := s.link.t }

theorem retransmitT_some {s : State} {h : Handle} (kick : State → Flow) (found : findSeq s s.link.t = some h) :
    retransmitT kick s = (kick (beforeBump h s)).andThen fun t => .go { t with link.t := t.link.t + 1 } := by
  simp only [retransmitT, found]
  rfl

theorem retransmitT_none {s : State} (kick : State → Flow) (missing : findSeq s s.link.t = none) :
    retransmitT kick s = .ended (raiseFatal .missingRetransmitBuffer s) := by
  simp only [retransmitT, missing]

/-- Settles O44: the closed forms of what is staged, then the kick; after the kick of a retransmission T moves on, unless the
kick raised Fatal. -/
theorem dataSendingActionsStageTheirFrames : Obligations.DataSendingActionsStageTheirFrames := by
  intro s live
  refine ⟨fun h rest cons room => ?newData, fun h found => ⟨fun t kicked => ?bump, ?resent⟩, fun missing room => ?missing,
    fun h rest cons room => ?maint⟩
  case newData =>
    exact kicks_and_sends live ((exec_sendNewData live).trans (congrArg _ (sendNewData_cons txKick cons room)))
  case bump =>
    have answered : (txKick (beforeBump h s)).outcome = .next t :=
      (exec_txKick (s := beforeBump h s) live).symm.trans kicked
    rw [exec_retransmitT live, retransmitT_some txKick found]
    exact outcome_andThen_go (s := beforeBump h s) keepsFatal_txKick live answered _
  case resent =>
    rw [exec_retransmitT live, retransmitT_some txKick found]
    exact sends_of_kick (beforeBump h s) (fun _ l => { l with t := l.t + 1 }) fun _ timer => timer
  case missing =>
    rw [exec_retransmitT live, retransmitT_none txKick missing, raiseFatal_room _ room]
    rfl
  case maint =>
    exact kicks_and_sends live ((exec_sendMaintMessage live).trans (congrArg _ (sendMaintMessage_cons txKick cons room)))

/-! ### Control frames (R231, R239, R240, R247 to R249) -/

/-- Each control action is `SendControl` of its frame. -/
theorem exec_controlAction {s : State} {i : Instr} {b : List Byte}
    (listed : (i = .sendControl b) ∨ (i = .sendStrt ∧ b = buildStart s.cfg.ctlFlags) ∨
      (i = .sendStack ∧ b = buildStartAck s.cfg.ctlFlags) ∨ (i = .sendAck ∧ b = buildAck s.link.r s.cfg.ctlFlags) ∨
      (i = .sendNak ∧ b = buildNak s.link.nakReason s.link.r s.cfg.ctlFlags) ∨
      (i = .sendRep ∧ b = buildRep s.link.n s.cfg.ctlFlags)) (live : s.latch.fatal = false) :
    exec i s = (sendControl txKick b s).outcome := by
  rcases listed with rfl | ⟨rfl, rfl⟩ | ⟨rfl, rfl⟩ | ⟨rfl, rfl⟩ | ⟨rfl, rfl⟩ | ⟨rfl, rfl⟩ <;>
    exact outcome_unlessFatal live _

/-! ### The NAKs of a gap (R250, R379) -/

theorem stagedControls_nil (s : State) : stagedControls [] s = s := by
  simp [stagedControls, touch_nil]

/-- The first frame goes into the head of `free`, and the others into what is left of it. -/
theorem stagedControls_cons {s : State} {h : Handle} {rest : List Handle} (cons : s.pool.free = h :: rest) (b : List Byte)
    (bs : List (List Byte)) : stagedControls (b :: bs) s = stagedControls bs (stagedControl b h rest s) := by
  simp only [stagedControls, stagedControl, cons, List.length_cons, List.drop_succ_cons, List.take_succ_cons,
    List.zipWith_cons_cons, List.append_assoc, List.singleton_append]
  rw [touch_cons]
  exact fun _ => rfl

theorem gapNaks_succ (c : Config) (k : Byte) (n : Nat) :
    gapNaks c k (n + 1) = buildNak c.gapNakReason k c.ctlFlags :: gapNaks c (inc k) n := by
  have number : ∀ j : Nat, k + BitVec.ofNat 8 (j + 1) = inc k + BitVec.ofNat 8 j := by
    intro j
    rw [inc]
    bv_omega
  simp [gapNaks, List.range_succ_eq_map, number]

/-- One turn of the loop of `NakMissing` with a frame in flight: the NAK waits. -/
theorem nakLoop_succ_busy {s : State} {h : Handle} {rest : List Handle} (cons : s.pool.free = h :: rest)
    (flying : s.tx.inflight ≠ none) (n : Nat) (k : Byte) :
    nakLoop txKick (n + 1) k s =
      nakLoop txKick n (inc k) (stagedControl (buildNak s.cfg.gapNakReason k s.cfg.ctlFlags) h rest s) := by
  rw [nakLoop, sendControl_cons txKick _ cons, txKick_busy (s := stagedControl _ h rest s) flying]
  rfl

theorem nakLoop_busy : ∀ {n : Nat} {k : Byte} {s : State}, s.tx.inflight ≠ none → n ≤ s.pool.free.length →
    nakLoop txKick n k s = .go (stagedControls (gapNaks s.cfg k n) s)
  | 0, k, s, _, _ => congrArg Flow.go (stagedControls_nil s).symm
  | n + 1, k, s, flying, enough => by
    obtain ⟨h, rest, cons⟩ := List.exists_cons_of_length_pos (Nat.lt_of_lt_of_le (Nat.succ_pos n) enough)
    rw [cons, List.length_cons] at enough
    rw [nakLoop_succ_busy cons flying, gapNaks_succ, stagedControls_cons cons]
    exact nakLoop_busy flying (Nat.le_of_succ_le_succ enough)

/-- The pool runs out: Fatal after as many NAKs as `free` had descriptors. -/
theorem nakLoop_exhausted {free : List Handle} : ∀ {n : Nat} {k : Byte} {s : State}, s.pool.free = free →
    s.tx.inflight ≠ none → free.length < n → s.pool.completion.length ≠ s.cfg.window + 4 →
    nakLoop txKick n k s = .ended (afterFatal .poolExhausted (stagedControls (gapNaks s.cfg k free.length) s)) := by
  induction free with
  | nil =>
    intro n k s empty _ short room
    obtain ⟨n, rfl⟩ := Nat.exists_eq_succ_of_ne_zero short.ne'
    rw [nakLoop, sendControl_nil txKick _ empty room]
    exact congrArg (fun t => Flow.ended (afterFatal .poolExhausted t)) (stagedControls_nil s).symm
  | cons h rest ih =>
    intro n k s cons flying short room
    obtain ⟨n, rfl⟩ := Nat.exists_eq_succ_of_ne_zero (Nat.ne_zero_of_lt short)
    rw [nakLoop_succ_busy cons flying, List.length_cons, gapNaks_succ, stagedControls_cons cons]
    exact ih rfl flying (Nat.lt_of_succ_lt_succ short) room

/-- Settles O45: one frame in the head of `free`, or Fatal; and the loop of `NakMissing` with and without enough of `free`. -/
theorem controlActionsStageTheirFrames : Obligations.ControlActionsStageTheirFrames := by
  refine ⟨fun s i b listed live => ⟨fun h rest cons => ?staged, fun empty room => ?empty⟩,
    fun s p live flying => ⟨fun enough => ?naks, fun short room => ?exhausted⟩⟩
  case staged =>
    exact kicks_and_sends live ((exec_controlAction listed live).trans (congrArg _ (sendControl_cons txKick b cons)))
  case empty =>
    rw [exec_controlAction listed live, sendControl_nil txKick b empty room]
    rfl
  case naks =>
    rw [exec_nakMissing live, nakMissing, nakLoop_busy flying enough]
    rfl
  case exhausted =>
    rw [exec_nakMissing live, nakMissing, nakLoop_exhausted rfl flying short room]
    rfl

end Sys2Proof.Proofs.Actions

/-! SUPPORT. The entries of the dispatch table as instructions (47_dispatch_rules.md): when an entry matches, what is left
where its actions end no step, and the two host requests whose entries match in every state. -/

namespace Sys2Proof.Proofs.Rules

open Sys2Proof.Machine Sys2Proof.Laws Sys2Proof.Proofs.Timer Sys2Proof.Proofs.Dispatch Sys2Proof.Proofs.Actions

/-! ### The conditions on event and packet (R217, R222) -/

section
variable {ev : Option EventKind} {s : State} {c : PacketClass} {rx : RxPkt}

theorem isEvent_iff {e : EventKind} : isEvent e ev = true ↔ ev = some e := beq_iff_eq

theorem scanPacket_of_received (arrived : s.disp.curEvent = some .packetReceived) (holds : s.tx.rxPkt = some rx) :
    scanPacket s.disp.curEvent s = some rx :=
  (if_pos arrived).trans holds

theorem receives_of_class {p : Packet} (cls : p.cls = c) : receives c (some (.packet p)) = true := beq_iff_eq.mpr cls

theorem receives_of_gets
    (gets : s.disp.curEvent = some .packetReceived ∧ ∃ p, s.tx.rxPkt = some (.packet p) ∧ p.cls = c) :
    receives c (scanPacket s.disp.curEvent s) = true := by
  obtain ⟨arrived, p, holds, cls⟩ := gets
  rw [scanPacket_of_received arrived holds, receives_of_class cls]

end

/-! ### An entry that matches and fires (R217, R218) -/

section
variable {ev : Option EventKind} {pkt : Option RxPkt} {s t t' : State} {i : Instr}

theorem applies_of_any {r : Rule} (any : r.state = none) (holds : r.holds ev pkt s = true) :
    r.applies ev pkt s = true := by
  simp only [Rule.applies, any, holds, Bool.and_self]

theorem applies_of_state {r : Rule} {state : LinkState} (own : r.state = some state) (isIn : s.link.state = state)
    (holds : r.holds ev pkt s = true) : r.applies ev pkt s = true := by
  simp only [Rule.applies, own, isIn, holds, beq_self_eq_true, Bool.and_self]

/-- An entry given as an instruction fires as it does in a scan, and answers that it did (log 13). -/
theorem exec_of_fires (r : Rule) (entry : exec i s = (tryRule r s).outcome) (live : s.latch.fatal = false)
    (scanned : scanPacket s.disp.curEvent s = pkt) (applies : r.applies s.disp.curEvent pkt s = true)
    (done : runActions (r.actions pkt) (answer (.flag true) s) = .go t)
    (left : { t with link.state := r.newState } = t') : exec i s = .next t' := by
  have fires : tryRule r s = r.fire pkt (answer (.flag true) s) := by
    simp only [tryRule, scanned, applies, live, Bool.not_false, Bool.and_self, if_true]
  rw [entry, fires, fire_of_go done, left]
  rfl

/-- The same of an entry whose new state is the one that its actions leave. -/
theorem exec_of_fires_in_place (r : Rule) (entry : exec i s = (tryRule r s).outcome) (live : s.latch.fatal = false)
    (scanned : scanPacket s.disp.curEvent s = pkt) (applies : r.applies s.disp.curEvent pkt s = true)
    (done : runActions (r.actions pkt) (answer (.flag true) s) = .go t) (same : t.link.state = r.newState) :
    exec i s = .next t :=
  exec_of_fires r entry live scanned applies done (by rw [← same])

end

/-! ### The entries with a condition on the packet's fields (R270, R275, R278 to R281) -/

section
variable {ev : Option EventKind} {pkt : Option RxPkt} {s : State} {p : Packet}

theorem dr10_holds (gets : receives .ack pkt = true ∨ receives .data pkt = true ∨ receives .stack pkt = true) :
    dr10.holds ev pkt s = true := by
  simpa only [dr10, Bool.or_eq_true, or_assoc] using gets

theorem dr15_holds (data : p.cls = .data) (next : p.num = s.link.r + 1) : dr15.holds ev (some (.packet p)) s = true := by
  simp [dr15, receives_of_class data, packetHas, seqEQ, inc, next]

theorem dr18_holds (acks : p.cls = .ack ∨ p.cls = .data) (above : seqLT s.cfg.window s.link.a p.resp = true)
    (within : seqLE s.cfg.window p.resp s.link.n = true) : dr18.holds ev (some (.packet p)) s = true := by
  have listed : (receives .ack (some (.packet p)) || receives .data (some (.packet p))) = true :=
    Bool.or_eq_true_iff.mpr (acks.imp receives_of_class receives_of_class)
  simp only [dr18, listed, packetHas, above, within, Bool.and_self]

theorem dr19_holds (nak : p.cls = .nak) (above : seqLE s.cfg.window s.link.a p.resp = true)
    (within : seqLE s.cfg.window p.resp s.link.n = true) : dr19.holds ev (some (.packet p)) s = true := by
  simp only [dr19, receives_of_class nak, packetHas, above, within, Bool.and_self]

theorem dr20_holds (rep : p.cls = .rep) (same : p.num = s.link.r) : dr20.holds ev (some (.packet p)) s = true := by
  simp [dr20, receives_of_class rep, packetHas, seqEQ, same]

theorem dr21_holds (rep : p.cls = .rep) (other : p.num ≠ s.link.r) : dr21.holds ev (some (.packet p)) s = true := by
  simp [dr21, receives_of_class rep, packetHas, seqNE, other]

end

/-! ### Closed forms of the actions -/

section
variable {s : State}

theorem noted_ackWait (code : EventCode) (p : Pool) : (noted code p).ackWait = p.ackWait := by
  unfold noted
  split <;> rfl

theorem noted_transmit (code : EventCode) (p : Pool) : (noted code p).transmit = p.transmit := by
  unfold noted
  split <;> rfl

/-- `RequeueAckWait` after a notification: what DR13 and DR14 end with. -/
theorem requeueAckWait_notify (code : EventCode) (room : s.pool.completion.length ≠ s.cfg.window + 4)
    (roomBack : s.pool.ackWait.length + s.pool.transmit.length ≤ s.cfg.window) :
    requeueAckWait (notify code s) = { s with pool := requeued (noted code s.pool) } := by
  rw [notify_room code room, requeueAckWait_room (by simpa only [noted_ackWait, noted_transmit] using roomBack)]

theorem clearStartReceived_notify (code : EventCode) :
    clearStartReceived (notify code s) = notify code (clearStartReceived s) :=
  apply_ite clearStartReceived _ _ _

theorem bumpT_closed : bumpT s = { s with
    link.t := if seqLE s.cfg.window s.link.t s.link.a = true then s.link.a + 1 else s.link.t } := by
  unfold bumpT
  split <;> rfl

theorem stopTimerIfAGeX_closed : stopTimerIfAGeX s = { s with
    timer.running := s.timer.running && !seqGE s.cfg.window s.link.a s.link.x } := by
  unfold stopTimerIfAGeX
  split
  next past => rw [past, Bool.not_true, Bool.and_false]; rfl
  next notYet => rw [Bool.eq_false_of_not_eq_true notYet, Bool.not_false, Bool.and_true]

theorem startOrStopTimerByAX_closed : startOrStopTimerByAX s = { s with
    timer := if seqLT s.cfg.window s.link.a s.link.x = true then { running := true, remaining := s.cfg.pktTimeout }
             else { s.timer with running := false } } := by
  rw [startOrStopTimerByAX_eq]
  simp only [seqLT_iff]

@[simp] theorem enqueue_link (x : QueueArg) : (enqueue x s).2.link = s.link := by
  cases x <;> rfl

@[simp] theorem deliver_link (h : Handle) (rest : List Handle) (p : Packet) (code : EventCode) :
    (deliver h rest p code s).link = s.link := enqueue_link _

theorem deliverMaintToHost_link (p : Packet) : (deliverMaintToHost p s).link = s.link := by
  unfold deliverMaintToHost
  split
  · rfl
  · split <;> simp

theorem giveBufferToUser_linkState (p : Packet) : (giveBufferToUser p s).link.state = s.link.state := by
  unfold giveBufferToUser
  split
  · simp
  · split <;> simp

end

/-! ### What the entries with several actions leave (R264, R273, R274, R278, R279, R283) -/

section
variable {s : State} {pkt : Option RxPkt}

theorem dr04_actions (room : s.pool.completion.length ≠ s.cfg.window + 4) :
    runActions (dr04.actions pkt) s = .go { s with timer.running := false, pool := noted .maintenanceReceived s.pool } := by
  have inOrder : runActions (dr04.actions pkt) s = .go (notify .maintenanceReceived (stopTimer s)) := rfl
  rw [inOrder, notify_room (s := stopTimer s) _ room]
  rfl

theorem dr13_actions (room : s.pool.completion.length ≠ s.cfg.window + 4)
    (roomBack : s.pool.ackWait.length + s.pool.transmit.length ≤ s.cfg.window) :
    runActions (dr13.actions pkt) s = .go { s with
      timer.running := false, latch.startRcvd := false, pool := requeued (noted .disconnect s.pool) } := by
  have inOrder : runActions (dr13.actions pkt) s =
      .go (requeueAckWait (clearStartReceived (notify .disconnect (stopTimer s)))) := rfl
  rw [inOrder, clearStartReceived_notify, requeueAckWait_notify (s := clearStartReceived (stopTimer s)) _ room roomBack]
  rfl

theorem dr14_actions (room : s.pool.completion.length ≠ s.cfg.window + 4)
    (roomBack : s.pool.ackWait.length + s.pool.transmit.length ≤ s.cfg.window) :
    runActions (dr14.actions pkt) s = .go { s with
      timer.running := false, latch.startRcvd := true, pool := requeued (noted .startReceived s.pool) } := by
  have inOrder : runActions (dr14.actions pkt) s = .go (requeueAckWait (notifyStartReceived (stopTimer s))) := rfl
  rw [inOrder, notifyStartReceived,
    requeueAckWait_notify (s := { stopTimer s with latch.startRcvd := true }) _ room roomBack]
  rfl

theorem dr18_actions {p : Packet} (room : s.pool.completion.length + s.pool.ackWait.length ≤ s.cfg.window + 4) :
    runActions (dr18.actions (some (.packet p))) s = .go { s with
      pool := acknowledged s.cfg.window p.resp s.pool
      link := { s.link with
        a := p.resp, t := if seqLE s.cfg.window s.link.t p.resp = true then p.resp + 1 else s.link.t }
      timer.running := s.timer.running && !seqGE s.cfg.window p.resp s.link.x } := by
  have inOrder : runActions (dr18.actions (some (.packet p))) s =
      .go (stopTimerIfAGeX (bumpT (completeAcked p.resp s))) := rfl
  rw [inOrder, completeAcked_room p.resp room, bumpT_closed, stopTimerIfAGeX_closed]

theorem dr19_actions {p : Packet} (room : s.pool.completion.length + s.pool.ackWait.length ≤ s.cfg.window + 4) :
    runActions (dr19.actions (some (.packet p))) s = .go { s with
      pool := acknowledged s.cfg.window p.resp s.pool
      link := { s.link with a := p.resp, t := p.resp + 1 }
      timer.running := false } := by
  have inOrder : runActions (dr19.actions (some (.packet p))) s =
      .go (stopTimer (setTToAplus1 (completeAcked p.resp s))) := rfl
  rw [inOrder, completeAcked_room p.resp room]
  rfl

theorem dr23_actions : runActions (dr23.actions pkt) s = .go { s with
    link.x := s.tx.doneNum
    timer := if seqLT s.cfg.window s.link.a s.tx.doneNum = true then { running := true, remaining := s.cfg.pktTimeout }
             else { s.timer with running := false } } := by
  have inOrder : runActions (dr23.actions pkt) s = .go (startOrStopTimerByAX (setXToSentNum s)) := rfl
  rw [inOrder, startOrStopTimerByAX_closed]
  rfl

end

/-! ### The obligations on single entries -/

/-- Settles O46: each entry matches by its state and condition, and its actions leave their closed forms. -/
theorem entriesThatSendNothing : Obligations.EntriesThatSendNothing := by
  intro s live stopped started room roomBack gets
  refine ⟨fun ev => ?dr00, fun ev => ?dr02, fun maint roomLeft => ?dr04, fun iStart stack => ?dr07,
    fun iStart idle => ?dr09, fun aStart got => ?dr10, fun run line roomLeft back => ?dr13,
    fun run strt roomLeft back => ?dr14, fun run ev => ?dr22, fun run ev sent => ?dr23⟩
  case dr00 => exact exec_of_fires dr00 rfl live rfl (applies_of_any rfl (isEvent_iff.mpr ev)) rfl rfl
  case dr02 => exact exec_of_fires dr02 rfl live rfl (applies_of_any rfl (isEvent_iff.mpr ev)) rfl rfl
  case dr04 =>
    exact exec_of_fires dr04 rfl live rfl (applies_of_any rfl (receives_of_gets maint)) (dr04_actions roomLeft) rfl
  case dr07 =>
    exact exec_of_fires dr07 rfl live rfl (applies_of_state rfl iStart (receives_of_gets stack)) rfl rfl
  case dr09 =>
    have holds : timerNotRunning s = true := by rw [timerNotRunning, idle, Bool.not_false]
    exact exec_of_fires_in_place dr09 rfl live rfl (applies_of_state rfl iStart holds) rfl iStart
  case dr10 =>
    have holds : dr10.holds s.disp.curEvent _ s = true :=
      dr10_holds (got.imp receives_of_gets (Or.imp receives_of_gets receives_of_gets))
    exact exec_of_fires dr10 rfl live rfl (applies_of_state rfl aStart holds) rfl rfl
  case dr13 =>
    have holds : lineDisconnected s = true := by rw [lineDisconnected, line, Bool.not_false]
    exact exec_of_fires dr13 rfl live rfl (applies_of_state rfl run holds) (dr13_actions roomLeft back) rfl
  case dr14 =>
    exact exec_of_fires dr14 rfl live rfl (applies_of_state rfl run (receives_of_gets strt))
      (dr14_actions roomLeft back) rfl
  case dr22 =>
    exact exec_of_fires_in_place dr22 rfl live rfl (applies_of_state rfl run (isEvent_iff.mpr ev)) rfl run
  case dr23 =>
    have holds : dataMessageSent s.disp.curEvent s = true := by
      simp only [dataMessageSent, ev, sent, beq_self_eq_true, Bool.and_self]
    exact exec_of_fires_in_place dr23 rfl live rfl (applies_of_state rfl run holds) dr23_actions run

/-- Settles O47: each entry matches by its state and the fields of the packet, and its actions take the packet of the scan. -/
theorem entriesThatReadThePacket : Obligations.EntriesThatReadThePacket := by
  intro s live arrived w
  refine ⟨fun p rx => ?packet, fun r rx run => ?dr17⟩
  case dr17 =>
    exact exec_of_fires_in_place dr17 rfl live (scanPacket_of_received arrived rx) (applies_of_state rfl run rfl)
      rfl run
  case packet =>
    have scanned := scanPacket_of_received arrived rx
    refine ⟨fun maint inMaint => ?dr03, fun data run next => ?dr15, fun acks run above within room => ?dr18,
      fun nak run above within room => ?dr19, fun rep run same => ?dr20, fun rep run other => ?dr21⟩
    case dr03 =>
      exact ⟨_, exec_deliverMaintToHost, exec_of_fires_in_place dr03 rfl live scanned
        (applies_of_state rfl inMaint (receives_of_class maint)) rfl
        ((congrArg LinkVars.state (deliverMaintToHost_link p)).trans inMaint)⟩
    case dr15 =>
      exact ⟨_, exec_giveBufferToUser, exec_of_fires_in_place dr15 rfl live scanned
        (applies_of_state rfl run (dr15_holds data next)) rfl ((giveBufferToUser_linkState p).trans run)⟩
    case dr18 =>
      exact exec_of_fires_in_place dr18 rfl live scanned
        (applies_of_state rfl run (dr18_holds acks above within)) (dr18_actions room) run
    case dr19 =>
      exact exec_of_fires_in_place dr19 rfl live scanned
        (applies_of_state rfl run (dr19_holds nak above within)) (dr19_actions room) run
    case dr20 =>
      exact exec_of_fires_in_place dr20 rfl live scanned
        (applies_of_state rfl run (dr20_holds rep same)) rfl run
    case dr21 =>
      exact exec_of_fires_in_place dr21 rfl live scanned
        (applies_of_state rfl run (dr21_holds rep other)) rfl run

/-! ### Entries of any state in a dispatch (R260, R262, R308) -/

section
variable {s t : State} {e : EventKind}

/-- With no event present, no entry but DR05 can match in Halt or in Maintenance. -/
theorem quiescent_iff_quiet_dr05 (state : s.link.state = .halt ∨ s.link.state = .maintenance) :
    Quiescent s ↔ (dr05 kickInDispatch).applies none none s = false := by
  rcases state with state | state <;>
    simp [Quiescent, ruleTable, Rule.applies, dr00, dr01, dr02, dr03, dr04, dr05, dr06, dr07, dr08, dr09, dr10, dr11,
      dr12, dr13, dr14, dr15, dr16, dr17, dr18, dr19, dr20, dr21, dr22, dr23, dr24, dr25, dr26, dr27, dr28, state,
      isEvent, receives, packetHas]

theorem halt_quiescent (halt : s.link.state = .halt) : Quiescent s :=
  (quiescent_iff_quiet_dr05 (.inl halt)).mpr (by simp [Rule.applies, dr05, halt])

theorem maintenance_quiescent (maintenance : s.link.state = .maintenance)
    (nothing : s.tx.inflight ≠ none ∨ s.tx.fifo ≠ [] ∨ s.pool.transmit = []) : Quiescent s := by
  have quiet : (dr05 kickInDispatch).holds none none s = false := by
    rcases nothing with flying | staged | empty
    · simp [dr05, xmitIdle, flying]
    · simp [dr05, xmitIdle, staged]
    · simp [dr05, userMessageQueued, empty]
  exact (quiescent_iff_quiet_dr05 (.inr maintenance)).mpr (by rw [Rule.applies, quiet, Bool.and_false])

/-- A host request whose entry posts nothing and leaves the link quiescent (R308). -/
theorem userRequest_of_fires (ready : Ready s)
    (fires : scan (some e) (firstScan e (answer .none s)) = some (.go t)) (posted : t.disp.pending = s.disp.pending)
    (quiescent : Quiescent t) : userRequest e s = .go { t with disp := s.disp, env.reply := .flag true } := by
  obtain ⟨rest, live⟩ := ready
  have empty : t.disp.pending = noEvents := posted.trans (congrArg Dispatcher.pending rest)
  have dispatched := dispatch_fires (s := answer .none s) ⟨rest, live⟩ e fires empty quiescent
  rw [userRequest, if_neg (by simp [live]), dispatched, rest]
  rfl

theorem scan_userHalt : scan (some .userHalt) s =
    some (.go { s with disp.scanIndex := 0, timer.running := false, link.state := .halt }) :=
  scanFrom_append (pre := []) (r := dr00) rfl (by simp)

theorem scan_userMaintenanceMode : scan (some .userMaintenanceMode) s =
    some (.go { s with disp.scanIndex := 2, timer.running := false, link.state := .maintenance }) :=
  scanFrom_append (pre := [dr00, dr01 kickInDispatch]) (r := dr02) rfl
    (by simp [Rule.applies, dr00, dr01, isEvent])

end

/-- Settles O29: DR00 and DR02 match in every state, and what they leave is quiescent. -/
theorem userHaltAndMaintenanceAlwaysEnter : Obligations.UserHaltAndMaintenanceAlwaysEnter := by
  refine ⟨fun s ready => ?halt, fun s ready nothing => ?maintenance⟩
  case halt => exact congrArg Flow.outcome (userRequest_of_fires ready scan_userHalt rfl (halt_quiescent rfl))
  case maintenance =>
    exact congrArg Flow.outcome
      (userRequest_of_fires ready scan_userMaintenanceMode rfl (maintenance_quiescent rfl nothing))

end Sys2Proof.Proofs.Rules

/-! SUPPORT. The host, transport and transmitter operations (48_interfaces.md R300 to R318): which entries wait for an event and
which for an idle transmitter, the events that a quiescent link loses, and what each operation leaves. -/

namespace Sys2Proof.Proofs.Interfaces

open Sys2Proof.Machine Sys2Proof.Laws Sys2Proof.Proofs.Timer Sys2Proof.Proofs.Dispatch Sys2Proof.Proofs.FatalLatch
  Sys2Proof.Proofs.Actions Sys2Proof.Proofs.Rules

/-! ### The table by what its entries wait for (R222 to R226, R290) -/

/-- The entries that send whenever the transmitter is idle and the link has something to send. -/
def idleEntries (kick : State → Flow) : List Rule := [dr05 kick, dr24 kick, dr25 kick, dr26 kick, dr27 kick, dr28 kick]

/-- The entries that need an event other than a completed frame, or a packet. -/
def eventEntries (kick : State → Flow) : List Rule :=
  [dr00, dr01 kick, dr02, dr03, dr04, dr06 kick, dr07, dr08 kick, dr10, dr11 kick, dr12 kick, dr14, dr15, dr16 kick, dr17,
   dr18, dr19, dr20, dr21, dr22]

/-- The rest of the table: the timer of `IStart`, the line of `Run`, and a completed data frame. -/
theorem mem_ruleTable_iff {kick : State → Flow} {r : Rule} :
    r ∈ ruleTable kick ↔ r ∈ idleEntries kick ∨ r = dr09 ∨ r = dr13 ∨ r = dr23 ∨ r ∈ eventEntries kick := by
  simp only [ruleTable, idleEntries, eventEntries, List.mem_cons, List.not_mem_nil, or_false, or_assoc]
  exact Iff.of_eq (by ac_rfl)

section
variable {kick : State → Flow} {r : Rule} {ev : Option EventKind} {pkt : Option RxPkt} {s : State}

/-- No entry is for these events but DR23, for a completed data frame in Run (R219, R283). -/
def Unlisted (ev : Option EventKind) : Prop :=
  ev = none ∨ ev = some .lineStatusChange ∨ ev = some .hostQueueChange ∨ ev = some .transmitDone

theorem eventEntries_quiet (unlisted : Unlisted ev) : ∀ r ∈ eventEntries kick, r.applies ev none s = false := by
  rcases unlisted with rfl | rfl | rfl | rfl <;>
    simp [eventEntries, Rule.applies, dr00, dr01, dr02, dr03, dr04, dr06, dr07, dr08, dr10, dr11, dr12, dr14, dr15, dr16,
      dr17, dr18, dr19, dr20, dr21, dr22, isEvent, receives, packetHas, receiveMessageError]

theorem scanPacket_unlisted (unlisted : Unlisted ev) : scanPacket ev s = none := by
  rcases unlisted with rfl | rfl | rfl | rfl <;> rfl

/-- The conditions of these entries are of the link alone. -/
theorem idleEntries_applies (mem : r ∈ idleEntries kick) : r.applies ev pkt s = r.applies none none s := by
  simp only [idleEntries, List.mem_cons, List.not_mem_nil, or_false] at mem
  rcases mem with rfl | rfl | rfl | rfl | rfl | rfl <;> rfl

theorem dr09_applies : dr09.applies ev pkt s = true ↔ s.link.state = .iStart ∧ s.timer.running = false := by
  simp [Rule.applies, dr09, timerNotRunning, @eq_comm _ LinkState.iStart]

theorem dr13_applies : dr13.applies ev pkt s = true ↔ s.link.state = .run ∧ s.link.lineConnected = false := by
  simp [Rule.applies, dr13, lineDisconnected, @eq_comm _ LinkState.run]

theorem dr23_applies : dr23.applies ev pkt s = true ↔
    s.link.state = .run ∧ ev = some .transmitDone ∧ s.tx.doneKind = .data := by
  simp [Rule.applies, dr23, dataMessageSent, @eq_comm _ LinkState.run]

/-- When one of these entries matches, the transmitter is idle (R224). -/
theorem xmitIdle_of_idleEntry (mem : r ∈ idleEntries kick) (applies : r.applies ev pkt s = true) : xmitIdle s = true := by
  simp only [idleEntries, List.mem_cons, List.not_mem_nil, or_false] at mem
  rcases mem with rfl | rfl | rfl | rfl | rfl | rfl <;>
    simp only [Rule.applies, dr05, dr24, dr25, dr26, dr27, dr28, Bool.and_eq_true] at applies <;> tauto

theorem quiescent_iff_entries : Quiescent s ↔
    (∀ r ∈ idleEntries kickInDispatch, r.applies none none s = false) ∧ dr09.applies none none s = false ∧
      dr13.applies none none s = false := by
  have sent : dr23.applies none none s = false := by simp [Rule.applies, dr23, dataMessageSent]
  have events := eventEntries_quiet (kick := kickInDispatch) (s := s) (.inl rfl)
  simp only [Quiescent, mem_ruleTable_iff, or_imp, forall_and, forall_eq]
  tauto

/-- Quiescence over the fields of the state. -/
theorem quiescent_iff : Quiescent s ↔
    (s.link.state = .maintenance → xmitIdle s = true → s.pool.transmit = []) ∧
    (s.link.state = .iStart → s.timer.running = true) ∧
    (s.link.state = .run → s.link.lineConnected = true ∧
      (xmitIdle s = true → s.link.snak = false ∧ s.link.srep = false ∧ tBehindNextNew s = false ∧
        (tIsNextNew s = true → s.link.sack = false ∧ (s.pool.transmit ≠ [] → ackWaitNotFull s = false)))) := by
  simp only [quiescent_iff_entries, ← Bool.not_eq_true, dr09_applies, dr13_applies]
  cases state : s.link.state <;>
    simp [idleEntries, Rule.applies, dr05, dr24, dr25, dr26, dr27, dr28, state, snakSet, srepSet, sackSet,
      userMessageQueued, List.length_pos_iff]
  grind

/-- An event that no entry is for, and that finds a quiescent link, is lost (R219). -/
theorem dispatch_unlisted {e : EventKind} (ready : Ready s) (quiescent : Quiescent s) (unlisted : Unlisted (some e))
    (sent : e = .transmitDone → s.link.state ≠ .run) : dispatch e s = .go s := by
  refine dispatch_drops ready e fun r mem => ?_
  rw [scanPacket_unlisted unlisted]
  obtain ⟨idle, timer, line⟩ := quiescent_iff_entries.mp quiescent
  rcases mem_ruleTable_iff.mp mem with sends | rfl | rfl | rfl | event
  · rw [idleEntries_applies sends, idle r sends]
  · exact timer
  · exact line
  · rw [← Bool.not_eq_true, dr23_applies]
    rintro ⟨run, done, -⟩
    exact sent (Option.some.inj done) run
  · exact eventEntries_quiet unlisted r event

end

/-! ### The kill operations (R305, R306) -/

section
variable {s : State} {enable : Bool}

theorem exec_killReceiveBuffers : exec (.killReceiveBuffers enable) s = (killReceiveBuffers enable s).outcome := rfl

theorem exec_killTransmitBuffers : exec (.killTransmitBuffers enable) s = (killTransmitBuffers enable s).outcome := rfl

theorem performed_dispatch {t : State} (ready : Ready t) (quiescent : Quiescent t) :
    (performed (dispatch .hostQueueChange t)).outcome = .next (answer (.flag true) t) := by
  rw [dispatch_unlisted ready quiescent (.inr (.inr (.inl rfl))) (fun e => nomatch e)]
  rfl

/-- The receive buffers are of no entry's concern. -/
theorem quiescent_receive {t : State} (quiescent : Quiescent s) (cfg : t.cfg = s.cfg) (link : t.link = s.link)
    (timer : t.timer = s.timer) (tx : t.tx = s.tx) (transmit : t.pool.transmit = s.pool.transmit)
    (ackWait : t.pool.ackWait = s.pool.ackWait) : Quiescent t := by
  simpa only [quiescent_iff, xmitIdle, tBehindNextNew, tIsNextNew, ackWaitNotFull, cfg, link, timer, tx, transmit, ackWait]
    using quiescent

/-- The transmit buffers are of no entry's concern where nothing can be sent. -/
theorem quiescent_transmit {t : State} (quiescent : Quiescent s) (cfg : t.cfg = s.cfg) (link : t.link = s.link)
    (timer : t.timer = s.timer) (tx : t.tx = s.tx)
    (nothing : t.pool.transmit = [] ∨ s.link.state ≠ .run ∧ s.link.state ≠ .maintenance ∨ xmitIdle s = false) :
    Quiescent t := by
  rw [quiescent_iff] at quiescent ⊢
  simp only [xmitIdle, tBehindNextNew, tIsNextNew, cfg, link, timer, tx] at quiescent nothing ⊢
  grind

end

/-- Settles O27: `killAll_room` for what is handed back; the dispatch that follows finds nothing to do, since no entry is for
its event and the buffers that are gone are of no entry's concern. -/
theorem killsReturnTheBuffers : Obligations.KillsReturnTheBuffers := by
  refine fun s enable => ⟨fun fatal => ?fatal, fun ready quiescent => ⟨fun room => ?receive, fun room => ?transmit⟩⟩
  case fatal =>
    rw [exec_killReceiveBuffers, exec_killTransmitBuffers, killReceiveBuffers, killTransmitBuffers, if_pos fatal,
      if_pos fatal]
    exact ⟨rfl, rfl⟩
  case receive =>
    rw [exec_killReceiveBuffers, killReceiveBuffers, if_neg (by simp [ready.2]),
      killAll_room (s := { answer .none s with pool.receive := [] }) _ _ room, performed_dispatch]
    · rfl
    · exact ready
    · exact quiescent_receive quiescent rfl rfl rfl rfl rfl rfl
  case transmit =>
    rw [exec_killTransmitBuffers, killTransmitBuffers, if_neg (by simp [ready.2]),
      killAll_room (s := { answer .none s with pool.ackWait := [], pool.transmit := [] }) _ _
        (by simpa [add_assoc] using room), performed_dispatch]
    · rfl
    · exact ready
    · exact quiescent_transmit quiescent rfl rfl rfl rfl (.inl rfl)

/-! ### Buffers that the host hands over (R301 to R303) -/

section
variable {s : State} {address length : Nat} {eom : Bool} {k : BufferKind} {q : HandleQueue}

theorem exec_assignReceiveBuffer :
    exec (.assignReceiveBuffer address length) s = (assignReceiveBuffer address length s).outcome := rfl

theorem exec_enqueueTransmitBuffer :
    exec (.enqueueTransmitBuffer address length eom) s = (enqueueTransmitBuffer address length eom s).outcome := rfl

theorem assignReceiveBuffer_open (live : s.latch.fatal = false) (gate : s.latch.rxAccept = true)
    (short : length ≤ 16383) : assignReceiveBuffer address length s =
      acceptBuffer .receive .receive address length false (answer .none s) :=
  if_neg (by simp [live, gate, short])

theorem enqueueTransmitBuffer_open (live : s.latch.fatal = false) (gate : s.latch.txAccept = true)
    (short : length ≤ 16383) : enqueueTransmitBuffer address length eom s =
      acceptBuffer .transmitData .transmit address length eom (answer .none s) :=
  if_neg (by simp [live, gate, short])

theorem acceptBuffer_nil (empty : s.pool.free = []) (room : s.pool.completion.length ≠ s.cfg.window + 4) :
    acceptBuffer k q address length eom s = .ended (afterFatal .poolExhausted s) := by
  simp only [acceptBuffer, alloc_nil k empty, raiseFatal_room _ room]

/-- The descriptor of a buffer the host hands over (R301, R302). -/
def described (k : BufferKind) (address length : Nat) (eom : Bool) (d : Descriptor) : Descriptor :=
  { d with kind := k, actual := 0, seq := 0, eom := eom, address := address, length := BitVec.ofNat 14 length }

/-- After a buffer the host hands over took the head `h` of `free` and its place in the queue `q` (R301, R302). -/
def handedIn (q : HandleQueue) (f : Descriptor → Descriptor) (h : Handle) (rest : List Handle) (s : State) : State :=
  { s with pool := setHandles { s.pool with free := rest, desc := s.pool.desc.modify h f } q (handles s.pool q ++ [h]) }

/-- `free` itself is not a queue that the host hands buffers to. -/
theorem acceptBuffer_cons {h : Handle} {rest : List Handle} (cons : s.pool.free = h :: rest) (other : q ≠ .free)
    (room : (handles s.pool q).length ≠ s.cfg.window) : acceptBuffer k q address length eom s =
      (dispatch .hostQueueChange (handedIn q (described k address length eom) h rest s)).andThen fun t =>
        .go (answer (.handle h) t) := by
  have written : (allocated k h rest s.pool).desc.modify h
      (fun d => { d with address := address, length := BitVec.ofNat 14 length, eom := eom }) =
      s.pool.desc.modify h (described k address length eom) := by
    rw [allocated, List.modify_modify_eq]
    rfl
  have same : ∀ d, handles { allocated k h rest s.pool with desc := d } q = handles s.pool q := by
    intro d
    cases q with
    | free => exact absurd rfl other
    | receive | transmit | ackWait => rfl
  simp only [acceptBuffer, alloc_cons k cons, setDesc, written]
  rw [enqueue_room h (by simpa only [same] using room)]
  simp only [same]
  rfl

theorem acceptBuffer_outcome {h : Handle} {rest : List Handle} (cons : s.pool.free = h :: rest) (other : q ≠ .free)
    (room : (handles s.pool q).length ≠ s.cfg.window) (ready : Ready s)
    (quiescent : Quiescent (handedIn q (described k address length eom) h rest s)) :
    (acceptBuffer k q address length eom s).outcome =
      .next (answer (.handle h) (handedIn q (described k address length eom) h rest s)) := by
  rw [acceptBuffer_cons cons other room,
    dispatch_unlisted (s := handedIn q _ h rest s) ready quiescent (.inr (.inr (.inl rfl))) fun e => nomatch e]
  rfl

end

/-- Settles O25: `acceptBuffer` with and without a descriptor in `free`, the dispatch finding a link that stays quiescent; and
the guards of the two calls. -/
theorem hostBuffersAcceptedOrRefused : Obligations.HostBuffersAcceptedOrRefused := by
  refine ⟨fun s address length eom ready short => ⟨fun gate empty room => ?noReceive, fun gate empty room => ?noTransmit,
    fun h rest cons quiescent => ⟨fun gate room => ?receive, fun gate room nothing => ?transmit⟩⟩,
    fun s address length eom => ⟨fun refused => ?refuseReceive, fun refused => ?refuseTransmit⟩⟩
  case noReceive =>
    rw [exec_assignReceiveBuffer, assignReceiveBuffer_open ready.2 gate short,
      acceptBuffer_nil (s := answer .none s) empty room]
    rfl
  case noTransmit =>
    rw [exec_enqueueTransmitBuffer, enqueueTransmitBuffer_open ready.2 gate short,
      acceptBuffer_nil (s := answer .none s) empty room]
    rfl
  case receive =>
    rw [exec_assignReceiveBuffer, assignReceiveBuffer_open ready.2 gate short,
      acceptBuffer_outcome (s := answer .none s) (q := .receive) cons nofun room ready
        (quiescent_receive quiescent rfl rfl rfl rfl rfl rfl)]
    rfl
  case transmit =>
    have nothing : (s.link.state ≠ .run ∧ s.link.state ≠ .maintenance) ∨ xmitIdle s = false := by
      refine nothing.imp_right ?_
      rintro (flying | staged)
      · simp [xmitIdle, flying]
      · simp [xmitIdle, staged]
    rw [exec_enqueueTransmitBuffer, enqueueTransmitBuffer_open ready.2 gate short,
      acceptBuffer_outcome (s := answer .none s) (q := .transmit) cons nofun room ready
        (quiescent_transmit quiescent rfl rfl rfl rfl (.inr nothing))]
    rfl
  case refuseReceive =>
    rw [exec_assignReceiveBuffer, assignReceiveBuffer, if_pos (by simpa [or_assoc] using refused)]
    rfl
  case refuseTransmit =>
    rw [exec_enqueueTransmitBuffer, enqueueTransmitBuffer, if_pos (by simpa [or_assoc] using refused)]
    rfl

/-! ### The line (R318) -/

section
variable {s : State} {c : Bool}

theorem exec_onLineStatusChange : exec (.onLineStatusChange c) s = (onLineStatusChange c s).outcome := rfl

/-- In Run with the line down a scan for a change of the line fires DR13: no entry before it is for that event. -/
theorem scan_lineDown (run : s.link.state = .run) (down : s.link.lineConnected = false)
    (room : s.pool.completion.length ≠ s.cfg.window + 4)
    (roomBack : s.pool.ackWait.length + s.pool.transmit.length ≤ s.cfg.window) :
    scan (some .lineStatusChange) s = some (.go { s with
      disp.scanIndex := 13, timer.running := false, latch.startRcvd := false, link.state := .halt
      pool := requeued (noted .disconnect s.pool) }) := by
  have fires : scan (some .lineStatusChange) s = some (dr13.fire none { s with disp.scanIndex := 13 }) :=
    scanFrom_append (pre := (ruleTable kickInDispatch).take 13) (dr13_applies.mpr ⟨run, down⟩) (by
      simp [ruleTable, Rule.applies, dr00, dr01, dr02, dr03, dr04, dr05, dr06, dr07, dr08, dr09, dr10, dr11, dr12, isEvent,
        receives, packetHas, run, scanPacket])
  rw [fires, fire_of_go (dr13_actions (s := { s with disp.scanIndex := 13 }) room roomBack)]
  rfl

end

/-- Settles O36: the dispatch of the change finds nothing to do, or DR13, whose closed form is `dr13_actions`. -/
theorem lineStatusChanges : Obligations.LineStatusChanges := by
  refine fun s c => ⟨fun fatal => ?fatal, fun ready quiescent still => ?recorded, fun ready run room roomBack => ?down⟩
  case fatal => rw [exec_onLineStatusChange, onLineStatusChange, if_pos fatal]; rfl
  case recorded =>
    obtain ⟨maintenance, iStart, running⟩ := quiescent_iff.mp quiescent
    have quiescent : Quiescent { s with link.lineConnected := c } :=
      quiescent_iff.mpr ⟨maintenance, iStart, fun run => ⟨still.resolve_left (not_not_intro run), (running run).2⟩⟩
    rw [exec_onLineStatusChange, onLineStatusChange, if_neg (by simp [ready.2]),
      dispatch_unlisted (s := { s with link.lineConnected := c }) ready quiescent (.inr (.inl rfl)) fun e => nomatch e]
    rfl
  case down =>
    have fired := scan_lineDown (s := firstScan .lineStatusChange { s with link.lineConnected := false }) run rfl room
      roomBack
    have rest : s.disp = restingDispatcher := ready.1
    rw [exec_onLineStatusChange, onLineStatusChange, if_neg (by simp [ready.2]),
      dispatch_fires (s := { s with link.lineConnected := false }) ready _ fired
        (by simp [firstScan, rest, restingDispatcher]) (halt_quiescent rfl), ← rest]
    rfl
/-! ### The transmitter's operations (R310 to R313) -/

section
variable {s : State}

theorem exec_txSend (live : s.latch.fatal = false) {item : TxItem} (valid : ∀ h ∈ item.desc, h < s.cfg.window) :
    exec (.txSend item) s = (txKick { s with tx.fifo := s.tx.fifo ++ [item] }).outcome := by
  have listed : item.desc.all (isHandle s) = true :=
    (Option.all_eq_true ..).mpr fun h mem => decide_eq_true (valid h mem)
  exact (if_pos listed).trans (outcome_unlessFatal live (txSend txKick item))

theorem exec_transmitComplete (live : s.latch.fatal = false) :
    exec .transmitComplete s = (transmitComplete s).outcome := outcome_unlessFatal live _

theorem exec_onTransmitComplete :
    exec .onTransmitComplete s = if s.latch.fatal = true then .next s else exec .transmitComplete s := by
  have report : exec .onTransmitComplete s = (onTransmitComplete s).outcome := rfl
  rw [report, onTransmitComplete]
  split
  next => rfl
  next live => rw [exec_transmitComplete (by simpa using live)]

end

/-- Settles O31: `txSend` is the kick with the item staged, and a kick is told of by `sends_kick`. -/
theorem transmitterStagesAndKicks : Obligations.TransmitterStagesAndKicks := by
  intro s live
  refine ⟨fun item valid => ?staged, ?kicked, fun empty => exec_txKick_of_idle live (.inr empty)⟩
  case staged => exact kicks_and_sends live (exec_txSend live valid)
  case kicked => rw [exec_txKick live]; exact sends_kick s

/-! ### A completed frame (R312, R317) -/

/-- After the frame `x` landed with room in `free`: what `TransmitDone` is dispatched for (R312). -/
def landed (x : TxItem) (s : State) : State :=
  { s with
    tx := { s.tx with inflight := none, doneKind := x.kind, doneNum := x.num }
    pool.free := s.pool.free ++ x.desc.toList }

/-- After DR23: the number of the data frame that was sent, and the timer it calls for (R251, R283). -/
def dataSent (s : State) : State :=
  { s with
    link.x := s.tx.doneNum
    timer := if seqLT s.cfg.window s.link.a s.tx.doneNum = true then { running := true, remaining := s.cfg.pktTimeout }
             else { s.timer with running := false } }

section
variable {s t : State} {item x : TxItem} {xs : List TxItem} {i : Instr}

theorem exec_of_completion (named : i = .transmitComplete ∨ i = .onTransmitComplete) (live : s.latch.fatal = false) :
    exec i s = (transmitComplete s).outcome := by
  have operation := exec_transmitComplete live
  rcases named with rfl | rfl
  · exact operation
  · rw [exec_onTransmitComplete, if_neg (by simp [live]), operation]

theorem transmitComplete_none (nothing : s.tx.inflight = none) : transmitComplete s = .go s := by
  simp only [transmitComplete, nothing]

theorem transmitComplete_some (flying : s.tx.inflight = some item) :
    transmitComplete s = (dispatch .transmitDone (landFlight item s)).andThen txKick := by
  simp only [transmitComplete, flying]

theorem transmitComplete_room (flying : s.tx.inflight = some item)
    (room : item.desc ≠ none → s.pool.free.length ≠ s.cfg.window) :
    transmitComplete s = (dispatch .transmitDone (landed item s)).andThen txKick := by
  rw [transmitComplete_some flying, landFlight_room room]
  rfl

/-- A kick after a dispatch that answers: where Fatal ended the dispatch, the kick does nothing (R346). -/
theorem dispatch_then_txKick {e : EventKind} (live : s.latch.fatal = false) (answered : exec (.dispatch e) s = .next t) :
    ((dispatch e s).andThen txKick).outcome = exec .txKick t := by
  have follows := keepsFatal_dispatch e s
  rcases outcome_eq_next answered with went | ended
  · rw [went] at follows ⊢
    exact (exec_txKick (follows.trans live)).symm
  · rw [ended] at follows ⊢
    have nothing : unlessFatal txKick t = .go t := if_pos (Raised.fatal follows)
    exact (congrArg Flow.outcome nothing).symm

/-- In Run with the line up, every entry that can match with no event present waits for an idle transmitter. -/
theorem run_quiescent_of_not_idle (run : s.link.state = .run) (line : s.link.lineConnected = true)
    (busy : xmitIdle s = false) : Quiescent s := by
  simp [quiescent_iff, run, line, busy]

theorem scan_dataSent (run : s.link.state = .run) (line : s.link.lineConnected = true) (busy : xmitIdle s = false)
    (data : s.tx.doneKind = .data) : scan (some .transmitDone) s = some (.go (dataSent { s with disp.scanIndex := 23 })) := by
  have fires : scan (some .transmitDone) s = some (dr23.fire none { s with disp.scanIndex := 23 }) :=
    scanFrom_append (pre := (ruleTable kickInDispatch).take 23) (dr23_applies.mpr ⟨run, rfl, data⟩) (by
      simp [ruleTable, Rule.applies, dr00, dr01, dr02, dr03, dr04, dr05, dr06, dr07, dr08, dr09, dr10, dr11, dr12, dr13,
        dr14, dr15, dr16, dr17, dr18, dr19, dr20, dr21, dr22, isEvent, receives, packetHas, receiveMessageError,
        lineDisconnected, run, line, busy, scanPacket])
  rw [fires, fire_of_go (dr23_actions (s := { s with disp.scanIndex := 23 }))]
  have same : (dataSent { s with disp.scanIndex := 23 }).link.state = dr23.newState := run
  rw [← same]
  rfl

theorem dispatch_dataSent (ready : Ready s) (run : s.link.state = .run) (line : s.link.lineConnected = true)
    (busy : xmitIdle s = false) (data : s.tx.doneKind = .data) : dispatch .transmitDone s = .go (dataSent s) := by
  have rest : s.disp = restingDispatcher := ready.1
  have fired := scan_dataSent (s := firstScan .transmitDone s) run line busy data
  rw [dispatch_fires ready _ fired (by simp [dataSent, firstScan, rest, restingDispatcher])
    (run_quiescent_of_not_idle run line busy), ← rest]
  rfl

end

/-- Settles O32: the item lands, its event is dispatched, and the kick follows, unless the dispatch raised Fatal; where the
dispatch is known, what it leaves. -/
theorem transmitCompleteLandsTheFrame : Obligations.TransmitCompleteLandsTheFrame := by
  intro s i named live
  rw [exec_of_completion named live]
  refine ⟨fun nothing => ?nothing, fun item flying room => ?_⟩
  case nothing => rw [transmitComplete_none nothing]; rfl
  rw [transmitComplete_room flying room]
  refine ⟨fun t answered => dispatch_then_txKick live answered, fun scanning empty => ?inside, fun rest halt empty => ?halt,
    fun x xs as rest run line data noDesc cons off answers => ?run⟩
  case inside =>
    rw [dispatch_of_scanning (s := landed item s) live scanning]
    have kicked : txKick (postEvent .transmitDone (landed item s)) = .go (completedInside item s) :=
      (txKick_empty (s := postEvent .transmitDone (landed item s)) empty).trans (by
        simp [postEvent, landed, completedInside, pendingSet, empty])
    exact congrArg _ kicked
  case halt =>
    rw [dispatch_unlisted (s := landed item s) ⟨rest, live⟩ (halt_quiescent halt) (.inr (.inr (.inr rfl)))
      (by simp [landed, halt])]
    exact congrArg _ (txKick_empty (s := landed item s) empty)
  case run =>
    have staged : xmitIdle (landed item s) = false := by simp [xmitIdle, landed, cons]
    rw [dispatch_dataSent (s := landed item s) ⟨rest, live⟩ run line staged data, Flow.andThen,
      txKick_later (s := dataSent (landed item s)) rfl cons (offerFrame_listed off answers)]
    simp [dataSent, landed, noDesc, data, Flow.outcome]

end Sys2Proof.Proofs.Interfaces

/-! SUPPORT. Why `tx_kick` never meets the bound of the model's loops (R220; log 16): a measure of the frames that can still
leave, which each frame that leaves lowers. What is staged counts once; the link owes a bounded number of frames of its own
accord; an event that is pending, and a listed answer of the transport, are counted with all that they can bring. From it: a
send that completes inside `send` is a send and then `transmit_complete` (R317). -/

namespace Sys2Proof.Proofs.Kicks

open Sys2Proof.Machine Sys2Proof.Laws Sys2Proof.Proofs.Timer Sys2Proof.Proofs.Dispatch Sys2Proof.Proofs.FatalLatch
  Sys2Proof.Proofs.Interfaces

/-! ### The measure -/

/-- Whether an event that is taken from `pending` can bring frames that were not due before it. A completed frame only
records its number (R283). -/
def credit (e : EventKind) : Nat := if e = .transmitDone then 0 else 1

/-- The events that are pending, a completed frame apart. -/
def credits (m : EventMask) : Nat :=
  m.userHalt.toNat + m.userMaintenanceMode.toNat + m.userStartup.toNat + m.lineStatusChange.toNat + m.timerExpired.toNat +
    m.packetReceived.toNat + m.hostQueueChange.toNat

/-- The transmit buffers that the engine holds and may still send. -/
def stock (s : State) : Nat := s.pool.transmit.length + s.pool.ackWait.length

/-- More frames than one event can bring: 255 for each of the four actions an entry has at most, and all that the link may
owe after it (`debt_le`). -/
def perEvent (k : Nat) : Nat := 2 * k + 1278

/-- More frames than one answer of the transport can bring: those of an event, those that 126 descriptors can carry, and all
that the link may owe after it. -/
def perAnswer (k : Nat) : Nat := 4 * k + 1662

/-- The frames that are staged, and that pending events and the transport's listed answers may bring. -/
def load (k : Nat) (s : State) : Nat :=
  s.tx.fifo.length + perEvent k * credits s.disp.pending + perAnswer k * s.env.answers.length

/-- The frames that the link sends of its own accord: the retransmissions up to N, one for each latch, and the messages that
wait; in Run also those that a disconnection would put back (R245 to R249, R273). -/
def debt (k : Nat) (s : State) : Nat :=
  (s.link.n + 1 - s.link.t).toNat + s.link.snak.toNat + s.link.srep.toNat + s.link.sack.toNat +
    s.pool.transmit.length + if s.link.state = .run then k else 0

/-- A bound of the frames that can leave before the transmitter comes to rest. -/
def charge (k : Nat) (s : State) : Nat := load k s + debt k s

theorem credits_le (m : EventMask) : credits m ≤ 7 := by
  have le := Bool.toNat_le
  have := le m.userHalt; have := le m.userMaintenanceMode; have := le m.userStartup; have := le m.lineStatusChange
  have := le m.timerExpired; have := le m.packetReceived; have := le m.hostQueueChange
  simp only [credits]
  omega

theorem credits_posted (m : EventMask) (e : EventKind) : credits (pendingSet m e true) ≤ credits m + credit e := by
  cases e <;> simp [credits, pendingSet, credit] <;> omega

theorem credits_le_posted (m : EventMask) (e : EventKind) : credits m ≤ credits (pendingSet m e true) := by
  have le := Bool.toNat_le
  cases e <;> simp [credits, pendingSet, le]

theorem credits_taken {m : EventMask} {e : EventKind} (pending : pendingHas m e = true) :
    credits (pendingSet m e false) + credit e = credits m := by
  cases e <;> simp_all [credits, pendingSet, credit, pendingHas] <;> omega

theorem debt_le {k : Nat} {s : State} (le : stock s ≤ k) : debt k s ≤ 2 * k + 258 := by
  have resend := (s.link.n + 1 - s.link.t).isLt
  have snak := Bool.toNat_le s.link.snak
  have srep := Bool.toNat_le s.link.srep
  have sack := Bool.toNat_le s.link.sack
  have run : (if s.link.state = .run then k else 0) ≤ k := by split <;> omega
  simp only [stock] at le
  simp only [debt]
  omega

theorem charge_mono {k k' : Nat} (le : k ≤ k') (s : State) : charge k s ≤ charge k' s := by
  have events : perEvent k * credits s.disp.pending ≤ perEvent k' * credits s.disp.pending :=
    Nat.mul_le_mul_right _ (by simp only [perEvent]; omega)
  have answers : perAnswer k * s.env.answers.length ≤ perAnswer k' * s.env.answers.length :=
    Nat.mul_le_mul_right _ (by simp only [perAnswer]; omega)
  simp only [charge, load, debt]
  split <;> omega

/-- The bound of the model's loops exceeds the measure. -/
theorem charge_lt_budget (s : State) : charge (stock s) s < budget s := by
  have own := debt_le (le_refl (stock s))
  have pending : perEvent (stock s) * credits s.disp.pending ≤ perEvent (stock s) * 7 :=
    Nat.mul_le_mul_left _ (credits_le _)
  have listed : perAnswer (stock s) * s.env.answers.length ≤ 40 * (stock s + 300) * s.env.answers.length :=
    Nat.mul_le_mul_right _ (by simp only [perAnswer]; omega)
  have whole : budget s = 40 * (stock s + 300) * s.env.answers.length + 40 * (stock s + 300) + s.tx.fifo.length := by
    rw [budget, stock, Nat.mul_succ]
  simp only [charge, load]
  rw [whole]
  simp only [perEvent] at pending ⊢
  omega

/-! ### What a piece of a step may do to what the measure reads -/

/-- What the measure reads, the link's variables apart. -/
def ledger (s : State) : Config × List TxItem × Option TxItem × EventMask × List SendAnswer × List Handle × List Handle ×
    List Handle :=
  (s.cfg, s.tx.fifo, s.tx.inflight, s.disp.pending, s.env.answers, s.pool.free, s.pool.transmit, s.pool.ackWait)

/-- While a frame is in flight nothing leaves, so that a frame is staged only in a descriptor of `free`. -/
structure Waits (s t : State) : Prop where
  flying : t.tx.inflight ≠ none
  slots : t.tx.fifo.length + t.pool.free.length ≤ s.tx.fifo.length + s.pool.free.length
  answers : t.env.answers.length ≤ s.env.answers.length
  pending : credits (pendingSet t.disp.pending .packetReceived true) ≤
    credits (pendingSet s.disp.pending .packetReceived true)

/-- What every piece of a step keeps. -/
structure Follows (s t : State) : Prop where
  cfg : t.cfg = s.cfg
  stock_le : stock t ≤ stock s
  free_le : s.pool.free.length ≤ s.cfg.window → t.pool.free.length ≤ t.cfg.window
  waits : s.tx.inflight ≠ none → Waits s t

section
variable {s t u : State}

theorem Waits.trans (h : Waits s t) (g : Waits t u) : Waits s u :=
  ⟨g.flying, g.slots.trans h.slots, g.answers.trans h.answers, g.pending.trans h.pending⟩

theorem Follows.trans (h : Follows s t) (g : Follows t u) : Follows s u :=
  ⟨g.cfg.trans h.cfg, g.stock_le.trans h.stock_le, fun room => g.free_le (h.free_le room),
    fun flying => (h.waits flying).trans (g.waits (h.waits flying).flying)⟩

theorem ledger_eq_iff : ledger t = ledger s ↔ t.cfg = s.cfg ∧ t.tx.fifo = s.tx.fifo ∧ t.tx.inflight = s.tx.inflight ∧
    t.disp.pending = s.disp.pending ∧ t.env.answers = s.env.answers ∧ t.pool.free = s.pool.free ∧
    t.pool.transmit = s.pool.transmit ∧ t.pool.ackWait = s.pool.ackWait := by
  simp only [ledger, Prod.mk.injEq]

theorem follows_of_ledger (same : ledger t = ledger s) : Follows s t := by
  obtain ⟨cfg, fifo, inflight, pending, answers, free, transmit, ackWait⟩ := ledger_eq_iff.mp same
  refine ⟨cfg, by simp only [stock, transmit, ackWait, le_refl], fun room => by rwa [free, cfg], fun flying => ?_⟩
  exact ⟨by rwa [inflight], by rw [fifo, free], by rw [answers], by rw [pending]⟩

theorem load_of_ledger (k : Nat) (same : ledger t = ledger s) : load k t = load k s := by
  obtain ⟨-, fifo, -, pending, answers, -, -, -⟩ := ledger_eq_iff.mp same
  rw [load, fifo, pending, answers, load]

end

/-! ### The shared operations -/

section
variable (s : State)

@[simp] theorem notify_ledger (code : EventCode) : ledger (notify code s) = ledger s := by
  unfold notify
  split <;> rfl

@[simp] theorem giveBufferToUser_ledger (pkt : Packet) : ledger (giveBufferToUser pkt s) = ledger s := by
  unfold giveBufferToUser
  split
  · rfl
  · split <;> rfl

@[simp] theorem deliverMaintToHost_ledger (pkt : Packet) : ledger (deliverMaintToHost pkt s) = ledger s := by
  unfold deliverMaintToHost
  split
  · rfl
  · split <;> rfl

@[simp] theorem notifyStartReceived_ledger : ledger (notifyStartReceived s) = ledger s := notify_ledger _ _

@[simp] theorem bumpT_ledger : ledger (bumpT s) = ledger s := by
  unfold bumpT
  split <;> rfl

@[simp] theorem stopTimerIfAGeX_ledger : ledger (stopTimerIfAGeX s) = ledger s := by
  unfold stopTimerIfAGeX
  split <;> rfl

@[simp] theorem startOrStopTimerByAX_ledger : ledger (startOrStopTimerByAX s) = ledger s := by
  unfold startOrStopTimerByAX
  split <;> rfl

theorem corruptionChoice_ledger : ledger (corruptionChoice s).2 = ledger s := by
  unfold corruptionChoice
  split
  · rfl
  · split <;> rfl

theorem heard_ledger (b : List Byte) : ledger (heard b s).2 = ledger s := by
  simp only [heard]
  split <;> exact corruptionChoice_ledger s

end

/-- An acknowledgement hands buffers of `ack_wait` to the host (R241). -/
theorem follows_completeLoop (resp : Byte) : ∀ (n : Nat) (s : State), Follows s (completeLoop resp n s) ∧
    ∀ k, load k (completeLoop resp n s) = load k s
  | 0, s => ⟨follows_of_ledger rfl, fun _ => rfl⟩
  | n + 1, s => by
    simp only [completeLoop]
    split
    next => exact ⟨follows_of_ledger rfl, fun _ => rfl⟩
    next h rest cons =>
      split
      next =>
        obtain ⟨others, same⟩ := follows_completeLoop resp n
          (complete h (descOf s h).length .txBufferComplete { s with pool.ackWait := rest })
        have taken : Follows s (complete h (descOf s h).length .txBufferComplete { s with pool.ackWait := rest }) :=
          ⟨rfl, by simp [stock, complete, enqueue, setDesc, cons], id, fun flying => ⟨flying, le_rfl, le_rfl, le_rfl⟩⟩
        exact ⟨taken.trans others, same⟩
      next => exact ⟨follows_of_ledger rfl, fun _ => rfl⟩

/-- One buffer more goes back to `transmit`, or is lost where it is full. -/
theorem requeueOne_stock (s : State) (h : Handle) : ∃ (d : List Descriptor) (l : List Handle),
    requeueOne s h = { s with pool := { s.pool with desc := d, transmit := l } } ∧
      l.length ≤ s.pool.transmit.length + 1 := by
  refine ⟨_, (listPushFront s.cfg.window s.pool.transmit h).2, rfl, ?_⟩
  unfold listPushFront
  split <;> simp

theorem requeue_foldl_stock : ∀ (l : List Handle) (s : State), ∃ (d : List Descriptor) (m : List Handle),
    l.foldl requeueOne s = { s with pool := { s.pool with desc := d, transmit := m } } ∧
      m.length ≤ s.pool.transmit.length + l.length
  | [], s => ⟨s.pool.desc, s.pool.transmit, rfl, le_rfl⟩
  | h :: l, s => by
    obtain ⟨d, m, one, le⟩ := requeueOne_stock s h
    obtain ⟨d', m', others, le'⟩ := requeue_foldl_stock l (requeueOne s h)
    refine ⟨d', m', ?_, ?_⟩
    · rw [List.foldl_cons, others, one]
    · rw [one] at le'
      simp only [List.length_cons] at le' ⊢
      omega

/-- `RequeueAckWait` whatever room there is (R184). -/
theorem requeueAckWait_stock (s : State) : ∃ (d : List Descriptor) (m : List Handle),
    requeueAckWait s = { s with pool := { s.pool with desc := d, transmit := m, ackWait := [] } } ∧ m.length ≤ stock s := by
  obtain ⟨d, m, requeued, le⟩ := requeue_foldl_stock s.pool.ackWait.reverse { s with pool.ackWait := [] }
  exact ⟨d, m, requeued, by simpa [stock] using le⟩

theorem follows_requeueAckWait (s : State) : Follows s (requeueAckWait s) := by
  obtain ⟨d, m, requeued, le⟩ := requeueAckWait_stock s
  rw [requeued]
  exact ⟨rfl, by simpa [stock] using le, id, fun flying => ⟨flying, le_rfl, le_rfl, le_rfl⟩⟩

theorem load_requeueAckWait (k : Nat) (s : State) : load k (requeueAckWait s) = load k s := by
  obtain ⟨d, m, requeued, -⟩ := requeueAckWait_stock s
  rw [requeued]
  rfl

/-- A descriptor goes back to `free` where there is room (R178). -/
theorem releaseItem_free (i : TxItem) (s : State) : ∃ l : List Handle,
    releaseItem i s = { s with pool.free := l } ∧ l.length ≤ s.pool.free.length + 1 ∧
      (s.pool.free.length ≤ s.cfg.window → l.length ≤ s.cfg.window) := by
  unfold releaseItem
  split
  next h _ =>
    refine ⟨(listEnqueue s.cfg.window s.pool.free h).2, rfl, ?_⟩
    unfold listEnqueue
    split
    · exact ⟨Nat.le_succ _, id⟩
    · simp only [List.length_append, List.length_singleton]
      omega
  next => exact ⟨s.pool.free, rfl, Nat.le_succ _, id⟩

theorem releaseItem_foldl_free : ∀ (l : List TxItem) (s : State), ∃ f : List Handle,
    l.foldl (fun acc item => releaseItem item acc) s = { s with pool.free := f } ∧
      f.length ≤ s.pool.free.length + l.length ∧ (s.pool.free.length ≤ s.cfg.window → f.length ≤ s.cfg.window)
  | [], s => ⟨s.pool.free, rfl, le_rfl, id⟩
  | i :: l, s => by
    obtain ⟨f, one, le, room⟩ := releaseItem_free i s
    obtain ⟨f', others, le', room'⟩ := releaseItem_foldl_free l (releaseItem i s)
    rw [one] at le' room'
    refine ⟨f', ?_, ?_, fun small => room' (room small)⟩
    · rw [List.foldl_cons, others, one]
    · simp only [List.length_cons] at le' ⊢
      omega

/-- The link variables as `ResetVariables` sets them (R232). -/
def freshLink (s : State) : State :=
  { s with link := { s.link with r := 0, n := 0, a := 0, x := 0, t := 1, sack := false, snak := false, srep := false,
                                 nakReason := 0 } }

/-- `ResetVariables` frees the descriptors of what it discards (R232). -/
theorem resetVariables_free (s : State) : ∃ (p : Pool),
    resetVariables s = { freshLink s with pool := p, tx.fifo := [] } ∧ p.transmit.length ≤ stock s ∧ p.ackWait = [] ∧
      p.free.length ≤ s.pool.free.length + s.tx.fifo.length ∧
      (s.pool.free.length ≤ s.cfg.window → p.free.length ≤ s.cfg.window) := by
  obtain ⟨d, m, requeued, le⟩ := requeueAckWait_stock (freshLink s)
  obtain ⟨f, released, free, room⟩ := releaseItem_foldl_free s.tx.fifo (requeueAckWait (freshLink s))
  have kept : (requeueAckWait (freshLink s)).tx.fifo = s.tx.fifo := by rw [requeued]; rfl
  have whole : resetVariables s = { s.tx.fifo.foldl (fun acc item => releaseItem item acc)
      (requeueAckWait (freshLink s)) with tx.fifo := [] } := by
    rw [← kept]
    rfl
  rw [whole, released]
  rw [requeued] at free room ⊢
  exact ⟨_, rfl, le, rfl, free, room⟩

theorem follows_resetVariables (s : State) : Follows s (resetVariables s) := by
  obtain ⟨p, reset, le, empty, free, room⟩ := resetVariables_free s
  rw [reset]
  exact ⟨rfl, by simpa [stock, empty] using le, room,
    fun flying => ⟨flying, by simpa [add_comm] using free, le_rfl, le_rfl⟩⟩

theorem load_resetVariables (k : Nat) (s : State) : load k (resetVariables s) ≤ load k s := by
  obtain ⟨p, reset, -⟩ := resetVariables_free s
  rw [reset]
  simp [load, freshLink]

/-! ### The transmitter inside a dispatch -/

/-- After `tx_kick` inside a dispatch: frames left, and what left brought no more than it took (R311, R312, R378). -/
structure Kicked (k n : Nat) (s t : State) : Prop where
  cfg : t.cfg = s.cfg
  link : t.link = s.link
  transmit : t.pool.transmit = s.pool.transmit
  ackWait : t.pool.ackWait = s.pool.ackWait
  free_le : s.pool.free.length ≤ s.cfg.window → t.pool.free.length ≤ t.cfg.window
  load_le : load k t ≤ load k s + n

theorem Kicked.trans {k n m : Nat} {s t u : State} (h : Kicked k n s t) (g : Kicked k m t u) : Kicked k (n + m) s u :=
  ⟨g.cfg.trans h.cfg, g.link.trans h.link, g.transmit.trans h.transmit, g.ackWait.trans h.ackWait,
    fun room => g.free_le (h.free_le room), by have := h.load_le; have := g.load_le; omega⟩

/-- How many of the listed answers an answer to a send takes, where it is one that delivers frames. -/
def delivers : SendAnswer → Nat
  | .acceptedReceiving _ _ => 1
  | _ => 0

/-- Only a listed answer delivers frames inside the send (log 11). -/
theorem transportAnswer_answers (s : State) :
    (transportAnswer s).2.env.answers.length + delivers (transportAnswer s).1 ≤ s.env.answers.length := by
  unfold transportAnswer
  split
  next a as listed =>
    have le : delivers a ≤ 1 := by cases a <;> simp [delivers]
    simpa [listed] using le
  next empty =>
    have silent : ∀ a, delivers (silently a) = 0 := by
      intro a
      rcases a with _ | _ | _ | ⟨frames, _ | _⟩ <;> rfl
    simp [empty, silent]

theorem transportSend_answers (b : List Byte) (s : State) :
    (transportSend b s).2.env.answers.length + delivers (transportSend b s).1 ≤ s.env.answers.length := by
  simp only [transportSend]
  split <;> exact transportAnswer_answers s

theorem offerFrame_answers (b : List Byte) (s : State) :
    (offerFrame b s).2.env.answers.length + delivers (offerFrame b s).1 ≤ s.env.answers.length := by
  obtain ⟨-, -, -, -, chosen, -⟩ := ledger_eq_iff.mp (corruptionChoice_ledger s)
  rw [← chosen]
  simp only [offerFrame]
  split
  · exact le_rfl
  · exact transportSend_answers _ _
  · exact transportSend_answers _ _

theorem offerFrame_kept (b : List Byte) (s : State) : ∃ e : Env, (offerFrame b s).2 = { s with env := e } :=
  ⟨_, congrArg Prod.snd (offerFrame_boundary b s)⟩

theorem heard_link (b : List Byte) (s : State) : (heard b s).2.link = s.link := by
  have chosen : (corruptionChoice s).2.link = s.link := by
    rw [corruptionChoice_update (s := s) (t := s) rfl rfl]
  simp only [heard]
  split <;> exact chosen

/-- Of what the measure reads, frames that are received while a dispatch runs change the pending event only (R37, R378). -/
def Heard (s t : State) : Prop :=
  t.link = s.link ∧ (ledger t = ledger s ∨ ledger t = ledger (postEvent .packetReceived s))

theorem ledger_postEvent_congr {s t : State} (same : ledger t = ledger s) (e : EventKind) :
    ledger (postEvent e t) = ledger (postEvent e s) := by
  rw [ledger_eq_iff] at same ⊢
  obtain ⟨cfg, fifo, inflight, pending, answers, free, transmit, ackWait⟩ := same
  exact ⟨cfg, fifo, inflight, by simp only [postEvent, pending], answers, free, transmit, ackWait⟩

theorem heard_receiveScanning (s : State) (b : List Byte) : Heard s (receiveScanning s b) := by
  simp only [receiveScanning]
  split
  · exact ⟨rfl, .inl rfl⟩
  · split
    next rx _ =>
      simp only [dispatchScanning]
      split
      · exact ⟨heard_link b s, .inl (heard_ledger s b)⟩
      · exact ⟨heard_link b s, .inr (ledger_postEvent_congr (t := { (heard b s).2 with tx.rxPkt := some rx })
          (heard_ledger s b) .packetReceived)⟩
    next => exact ⟨heard_link b s, .inl (heard_ledger s b)⟩

theorem Heard.trans {s t u : State} (h : Heard s t) (g : Heard t u) : Heard s u := by
  obtain ⟨link, first⟩ := h
  obtain ⟨link', second⟩ := g
  refine ⟨link'.trans link, ?_⟩
  rcases second with same | posted
  · rw [same]; exact first
  · refine .inr (posted.trans ?_)
    rcases first with same | posted'
    · exact ledger_postEvent_congr same _
    · exact (ledger_postEvent_congr posted' _).trans rfl

theorem heard_foldl : ∀ (frames : List (List Byte)) (s : State), Heard s (frames.foldl receiveScanning s)
  | [], _ => ⟨rfl, .inl rfl⟩
  | b :: frames, s => (heard_receiveScanning s b).trans (heard_foldl frames (receiveScanning s b))

theorem load_postEvent (k : Nat) (e : EventKind) (s : State) :
    load k (postEvent e s) ≤ load k s + perEvent k * credit e := by
  have posted : perEvent k * credits (pendingSet s.disp.pending e true) ≤
      perEvent k * credits s.disp.pending + perEvent k * credit e := by
    rw [← Nat.mul_add]
    exact Nat.mul_le_mul_left _ (credits_posted _ _)
  simp only [load, postEvent_disp, postEvent_tx, postEvent_env]
  omega

theorem Heard.kicked {k : Nat} {s t : State} (heard : Heard s t) : Kicked k (perEvent k) s t := by
  obtain ⟨link, same | posted⟩ := heard
  · obtain ⟨cfg, -, -, -, -, free, transmit, ackWait⟩ := ledger_eq_iff.mp same
    exact ⟨cfg, link, transmit, ackWait, fun room => by rwa [free, cfg], by rw [load_of_ledger k same]; omega⟩
  · obtain ⟨cfg, -, -, -, -, free, transmit, ackWait⟩ := ledger_eq_iff.mp posted
    have le := load_postEvent k .packetReceived s
    exact ⟨cfg, link, transmit, ackWait, fun room => by rw [free, cfg]; exact room,
      by rw [load_of_ledger k posted]; simpa [credit] using le⟩

/-- `transmit_complete` up to its dispatch, whatever room there is (R312). -/
theorem landFlight_free (item : TxItem) (s : State) : ∃ l : List Handle,
    landFlight item s = { s with
      tx := { s.tx with inflight := none, doneKind := item.kind, doneNum := item.num }, pool.free := l } ∧
      (s.pool.free.length ≤ s.cfg.window → l.length ≤ s.cfg.window) := by
  obtain ⟨l, released, -, room⟩ := releaseItem_free item { s with tx.inflight := none }
  exact ⟨l, by simp only [landFlight, released], room⟩

/-- A frame that completed inside a send, its event merged (R312, R317). -/
theorem kicked_landed (k : Nat) (item : TxItem) (s : State) :
    Kicked k 0 s (dispatchScanning .transmitDone (landFlight item s)) := by
  obtain ⟨l, landed, room⟩ := landFlight_free item s
  have le := load_postEvent k .transmitDone (landFlight item s)
  rw [landed] at le ⊢
  unfold dispatchScanning
  split
  · exact ⟨rfl, rfl, rfl, rfl, room, le_rfl⟩
  · exact ⟨rfl, rfl, rfl, rfl, room, le⟩

section
variable {k : Nat} {item : TxItem} {rest : List TxItem} {s t : State}

/-- The head of `tx_fifo` is offered and in flight: it leaves, and a listed answer that delivers frames is paid for. -/
theorem load_offered (k : Nat) (cons : s.tx.fifo = item :: rest) :
    load k (takeFlight item rest (offerFrame item.bytes s).2) + 1 +
      perAnswer k * delivers (offerFrame item.bytes s).1 ≤ load k s := by
  have taken : perAnswer k * (offerFrame item.bytes s).2.env.answers.length +
      perAnswer k * delivers (offerFrame item.bytes s).1 ≤ perAnswer k * s.env.answers.length := by
    rw [← Nat.mul_add]
    exact Nat.mul_le_mul_left _ (offerFrame_answers _ _)
  obtain ⟨e, kept⟩ := offerFrame_kept item.bytes s
  simp only [kept] at taken
  rw [kept]
  simp only [load, takeFlight_tx, takeFlight_disp, takeFlight_env, cons, List.length_cons]
  omega

theorem kicked_offered (k : Nat) (cons : s.tx.fifo = item :: rest) :
    Kicked k 0 s (takeFlight item rest (offerFrame item.bytes s).2) := by
  have le := load_offered k cons
  obtain ⟨e, kept⟩ := offerFrame_kept item.bytes s
  rw [kept] at le ⊢
  exact ⟨rfl, rfl, rfl, rfl, id, by omega⟩

/-- The head of `tx_fifo` is refused: it stays, and the answer is taken (R313). -/
theorem kicked_refused (k : Nat) (b : List Byte) (s : State) : Kicked k 0 s (offerFrame b s).2 := by
  have le : perAnswer k * (offerFrame b s).2.env.answers.length ≤ perAnswer k * s.env.answers.length :=
    Nat.mul_le_mul_left _ (Nat.le_of_add_right_le (offerFrame_answers b s))
  obtain ⟨e, kept⟩ := offerFrame_kept b s
  rw [kept] at le ⊢
  exact ⟨rfl, rfl, rfl, rfl, id, Nat.add_le_add_left le _⟩

theorem perEvent_le_perAnswer (k : Nat) : perEvent k ≤ perAnswer k := by
  simp only [perEvent, perAnswer]
  omega

/-- The frames that a listed answer delivers inside the send cost no more than the answer (R378). -/
theorem kicked_received {frames : List (List Byte)} {completes : Bool} (k : Nat) (cons : s.tx.fifo = item :: rest)
    (answer : (offerFrame item.bytes s).1 = .acceptedReceiving frames completes) :
    Kicked k 0 s (frames.foldl receiveScanning (takeFlight item rest (offerFrame item.bytes s).2)) := by
  have paid := load_offered k cons
  have heard := (heard_foldl frames (takeFlight item rest (offerFrame item.bytes s).2)).kicked (k := k)
  have brought := heard.load_le
  have le := perEvent_le_perAnswer k
  rw [answer, delivers, Nat.mul_one] at paid
  exact { (kicked_offered k cons).trans heard with load_le := by omega }

end

theorem kicked_kickScanning (k : Nat) : ∀ (n : Nat) (s : State), Kicked k 0 s (kickScanning n s)
  | 0, s => ⟨rfl, rfl, rfl, rfl, id, le_rfl⟩
  | n + 1, s => by
    have here : Kicked k 0 s s := ⟨rfl, rfl, rfl, rfl, id, le_rfl⟩
    simp only [kickScanning]
    split
    next => exact here
    next =>
      split
      next => exact here
      next item rest cons =>
        have offered := kicked_offered k cons
        split
        next => exact kicked_refused k item.bytes s
        next => exact offered
        next => exact (offered.trans (kicked_landed k item _)).trans (kicked_kickScanning k n _)
        next frames completes answer =>
          have received := kicked_received k cons answer
          split
          · exact (received.trans (kicked_landed k item _)).trans (kicked_kickScanning k n _)
          · exact received

/-! ### Frames that are staged while a dispatch runs -/

section
variable {k : Nat} {s t : State} {b : List Byte}

theorem Kicked.stock_eq {n : Nat} (kicked : Kicked k n s t) : stock t = stock s := by
  rw [stock, kicked.transmit, kicked.ackWait, stock]

/-- With a frame in flight the kick does nothing, and the descriptor that was taken is one less in `free`. -/
theorem follows_of_kicked {n : Nat} {staged : State} (kicked : Kicked k n s (kickScanning staged.tx.fifo.length staged))
    (waits : s.tx.inflight ≠ none → Waits s staged) : Follows s (kickScanning staged.tx.fifo.length staged) :=
  ⟨kicked.cfg, kicked.stock_eq.le, kicked.free_le, fun flying => by
    rw [kickScanning_busy _ (waits flying).flying]
    exact waits flying⟩

theorem sendControl_staged (sent : sendControl kickInDispatch b s = .go t) : Kicked k 1 s t ∧ Follows s t := by
  cases cons : s.pool.free with
  | nil => rw [sendControl, alloc_nil _ cons] at sent; cases sent
  | cons h rest =>
    rw [sendControl_cons _ b cons] at sent
    injection sent with sent
    have staged : Kicked k 1 s (stagedControl b h rest s) := by
      refine ⟨rfl, rfl, rfl, rfl, fun room => ?_, ?_⟩
      · rw [cons] at room
        exact Nat.le_of_succ_le room
      · simp only [load, stagedControl, List.length_append, List.length_singleton]
        omega
    have kicked := staged.trans (kicked_kickScanning k (stagedControl b h rest s).tx.fifo.length (stagedControl b h rest s))
    rw [← sent]
    refine ⟨kicked, follows_of_kicked kicked fun flying => ⟨flying, ?_, le_rfl, le_rfl⟩⟩
    simp only [stagedControl, cons, List.length_append, List.length_cons, List.length_nil]
    omega

end

/-! ### What an action stages -/

/-- An action with the kick of a dispatch: it stages no more than 255 frames. -/
def Stages (a : State → Flow) : Prop :=
  ∀ s t, a s = .go t → Follows s t ∧ ∀ k, load k t ≤ load k s + 255

section
variable {s t : State}

theorem andThen_eq_go {f : Flow} {g : State → Flow} : f.andThen g = .go t ↔ ∃ s, f = .go s ∧ g s = .go t := by
  cases f <;> simp [Flow.andThen]

theorem stages_go {f : State → State} (follows : ∀ s, Follows s (f s)) (le : ∀ k s, load k (f s) ≤ load k s) :
    Stages fun s => .go (f s) := by
  intro s t went
  injection went with went
  subst went
  exact ⟨follows s, fun k => Nat.le_add_right_of_le (le k s)⟩

@[simp] theorem stages_of_ledger {f : State → State} (same : ∀ s, ledger (f s) = ledger s) : Stages fun s => .go (f s) :=
  stages_go (fun s => follows_of_ledger (same s)) fun k s => (load_of_ledger k (same s)).le

@[simp] theorem stages_act {f : State → State} (same : ∀ s, ledger (f s) = ledger s) : Stages (act f) :=
  stages_of_ledger same

@[simp] theorem stages_start : Stages start := stages_of_ledger fun _ => rfl

@[simp] theorem stages_stop : Stages stop := stages_of_ledger fun _ => rfl

@[simp] theorem stages_setSACK : Stages (act setSACK) := stages_of_ledger fun _ => rfl

@[simp] theorem stages_setSNAK (r : BitVec 6) : Stages fun s => .go (setSNAK r s) := stages_of_ledger fun _ => rfl

@[simp] theorem stages_act_setSNAK (r : BitVec 6) : Stages (act (setSNAK r)) := stages_setSNAK r

@[simp] theorem stages_setSREP : Stages (act setSREP) := stages_of_ledger fun _ => rfl

@[simp] theorem stages_setTToAplus1 : Stages (act setTToAplus1) := stages_of_ledger fun _ => rfl

@[simp] theorem stages_setXToSentNum : Stages (act setXToSentNum) := stages_of_ledger fun _ => rfl

@[simp] theorem stages_clearStartReceived : Stages (act clearStartReceived) := stages_of_ledger fun _ => rfl

@[simp] theorem stages_requeueAckWait : Stages (act requeueAckWait) :=
  stages_go follows_requeueAckWait fun k s => (load_requeueAckWait k s).le

@[simp] theorem stages_resetVariables : Stages (act resetVariables) :=
  stages_go follows_resetVariables load_resetVariables

@[simp] theorem stages_completeAcked (resp : Byte) : Stages fun s => .go (completeAcked resp s) := by
  refine stages_go (fun s => ?_) fun k s => ?_
  · exact (follows_completeLoop resp _ s).1.trans (follows_of_ledger rfl)
  · exact ((follows_completeLoop resp s.pool.ackWait.length s).2 k).le

@[simp] theorem stages_onPacket {f : Packet → State → Flow} (hf : ∀ p, Stages (f p)) (pkt : Option RxPkt) :
    Stages (onPacket pkt f) := by
  match pkt with
  | some (.packet p) => exact hf p
  | some (.error _) => exact stages_of_ledger fun _ => rfl
  | none => exact stages_of_ledger fun _ => rfl

@[simp] theorem stages_onError {f : BitVec 6 → State → Flow} (hf : ∀ r, Stages (f r)) (pkt : Option RxPkt) :
    Stages (onError pkt f) := by
  match pkt with
  | some (.error r) => exact hf r
  | some (.packet _) => exact stages_of_ledger fun _ => rfl
  | none => exact stages_of_ledger fun _ => rfl

theorem stages_sendControl (b : State → List Byte) : Stages fun s => sendControl kickInDispatch (b s) s := by
  intro s t sent
  refine ⟨(sendControl_staged (k := 0) sent).2, fun k => ?_⟩
  have le := (sendControl_staged (k := k) sent).1.load_le
  omega

@[simp] theorem stages_sendStrt : Stages (sendStrt kickInDispatch) := stages_sendControl _

@[simp] theorem stages_sendStack : Stages (sendStack kickInDispatch) := stages_sendControl _

theorem nakLoop_staged : ∀ {n : Nat} {b : Byte} {s t : State}, nakLoop kickInDispatch n b s = .go t →
    Follows s t ∧ ∀ k, load k t ≤ load k s + n
  | 0, _, s, t, went => by
    cases went
    exact ⟨follows_of_ledger rfl, fun _ => le_rfl⟩
  | n + 1, b, s, t, went => by
    obtain ⟨u, sent, others⟩ := andThen_eq_go.mp went
    obtain ⟨follows, le⟩ := nakLoop_staged others
    refine ⟨(sendControl_staged (k := 0) sent).2.trans follows, fun k => ?_⟩
    have first := (sendControl_staged (k := k) sent).1.load_le
    have rest := le k
    omega

@[simp] theorem stages_nakMissing (num : Byte) : Stages (nakMissing kickInDispatch num) := by
  intro s t went
  obtain ⟨follows, le⟩ := nakLoop_staged went
  refine ⟨follows, fun k => ?_⟩
  have small := (num - s.link.r).isLt
  have := le k
  omega

/-- Every action of an entry that does not wait for an idle transmitter. -/
theorem stages_actions (pkt : Option RxPkt) :
    ∀ r ∈ dr09 :: dr13 :: dr23 :: eventEntries kickInDispatch, ∀ a ∈ r.actions pkt, Stages a := by
  simp [eventEntries, dr00, dr01, dr02, dr03, dr04, dr06, dr07, dr08, dr09, dr10, dr11, dr12, dr13, dr14, dr15, dr16,
    dr17, dr18, dr19, dr20, dr21, dr22, dr23, setSNAKFromError, notifyDisconnect, notifyMaintReceived]

end

/-- No entry has more than four actions. -/
theorem actions_length (pkt : Option RxPkt) :
    ∀ r ∈ dr09 :: dr13 :: dr23 :: eventEntries kickInDispatch, (r.actions pkt).length ≤ 4 := by
  simp [eventEntries, dr00, dr01, dr02, dr03, dr04, dr06, dr07, dr08, dr09, dr10, dr11, dr12, dr13, dr14, dr15, dr16,
    dr17, dr18, dr19, dr20, dr21, dr22, dr23]

theorem runActions_staged : ∀ {l : List (State → Flow)} {s t : State}, (∀ a ∈ l, Stages a) → runActions l s = .go t →
    Follows s t ∧ ∀ k, load k t ≤ load k s + 255 * l.length
  | [], s, t, _, went => by
    cases went
    exact ⟨follows_of_ledger rfl, fun _ => le_rfl⟩
  | a :: l, s, t, each, went => by
    obtain ⟨u, first, others⟩ := andThen_eq_go.mp went
    obtain ⟨follows, le⟩ := each a List.mem_cons_self s u first
    obtain ⟨follows', le'⟩ := runActions_staged (fun b mem => each b (List.mem_cons_of_mem a mem)) others
    refine ⟨follows.trans follows', fun k => ?_⟩
    have := le k
    have := le' k
    simp only [List.length_cons]
    omega

/-- An entry that does not wait for an idle transmitter stages no more than 1020 frames, whatever the link's variables
become. -/
theorem fire_staged {r : Rule} {pkt : Option RxPkt} {s t : State}
    (mem : r ∈ dr09 :: dr13 :: dr23 :: eventEntries kickInDispatch) (fired : r.fire pkt s = .go t) :
    Follows s t ∧ ∀ k, load k t ≤ load k s + 1020 := by
  obtain ⟨u, ran, set⟩ := andThen_eq_go.mp fired
  cases set
  obtain ⟨follows, le⟩ := runActions_staged (stages_actions pkt r mem) ran
  have short := actions_length pkt r mem
  refine ⟨follows.trans (follows_of_ledger rfl), fun k => ?_⟩
  have := le k
  have same : load k { u with link.state := r.newState } = load k u := rfl
  omega

/-! ### The entries that send when the transmitter is idle (R265, R284 to R288) -/

section
variable {s t : State}

/-- An entry that sends one frame pays for it with what the link owes. -/
structure Pays (s t : State) : Prop where
  cfg : t.cfg = s.cfg
  stock_le : stock t ≤ stock s
  free_le : s.pool.free.length ≤ s.cfg.window → t.pool.free.length ≤ t.cfg.window
  load_le : ∀ k, load k t ≤ load k s + 1
  debt_lt : ∀ k, debt k t < debt k s

/-- The frame is staged and kicked after the buffers have moved, and link variables and the timer are written last. -/
theorem pays_of_kicked {m u : State} (kicked : ∀ k, Kicked k 1 m u) (moved : Follows s m)
    (same : ∀ k, load k m = load k s) (l : LinkVars) (timer : Timer) (left : t = { u with link := l, timer := timer })
    (debt_lt : ∀ k, debt k { m with link := l } < debt k s) : Pays s t := by
  subst left
  have first := kicked 0
  refine ⟨first.cfg.trans moved.cfg, first.stock_eq.trans_le moved.stock_le, fun room => first.free_le (moved.free_le room),
    fun k => same k ▸ (kicked k).load_le, fun k => ?_⟩
  have owed : debt k { u with link := l, timer := timer } = debt k { m with link := l } := by
    simp only [debt, first.transmit]
  exact owed ▸ debt_lt k

theorem txSend_staged {item : TxItem} (sent : txSend kickInDispatch item s = .go t) (k : Nat) : Kicked k 1 s t := by
  injection sent with sent
  have staged : Kicked k 1 s { s with tx.fifo := s.tx.fifo ++ [item] } := by
    refine ⟨rfl, rfl, rfl, rfl, id, ?_⟩
    simp only [load, List.length_append, List.length_singleton]
    omega
  exact sent ▸ staged.trans (kicked_kickScanning k _ _)

/-- An entry with a control frame for its first action, the other actions writing link variables and the timer. -/
theorem pays_of_control {b : List Byte} {u : State} (sent : sendControl kickInDispatch b s = .go u)
    (f : LinkVars → LinkVars) (timer : Timer) (left : t = { u with link := f u.link, timer := timer })
    (debt_lt : ∀ k, debt k { s with link := f s.link } < debt k s) : Pays s t := by
  have kicked : ∀ k, Kicked k 1 s u := fun k => (sendControl_staged sent).1
  exact pays_of_kicked kicked (follows_of_ledger rfl) (fun _ => rfl) _ timer left ((kicked 0).link ▸ debt_lt)

variable {pkt : Option RxPkt}

/-- The first action of an entry sends, and the others cannot end the step. -/
theorem fire_first {r : Rule} {a : State → Flow} {l : List (State → Flow)} {f : State → State}
    (listed : r.actions pkt = a :: l) (others : ∀ v, runActions l v = .go (f v)) (fired : r.fire pkt s = .go t) :
    ∃ v, a s = .go v ∧ t = { f v with link.state := r.newState } := by
  rw [Rule.fire, listed] at fired
  obtain ⟨u, ran, set⟩ := andThen_eq_go.mp fired
  obtain ⟨v, sent, ran⟩ := andThen_eq_go.mp ran
  rw [others] at ran
  cases ran
  cases set
  exact ⟨v, sent, rfl⟩

theorem pays_dr24 (applies : (dr24 kickInDispatch).applies none none s = true)
    (fired : (dr24 kickInDispatch).fire pkt s = .go t) : Pays s t := by
  obtain ⟨run, -, snak⟩ : LinkState.run = s.link.state ∧ xmitIdle s = true ∧ s.link.snak = true := by
    simpa [Rule.applies, dr24, snakSet] using applies
  obtain ⟨v, sent, rfl⟩ := fire_first (f := clearSNAK) rfl (fun _ => rfl) fired
  refine pays_of_control sent (fun l => { l with snak := false, state := .run }) v.timer rfl fun k => ?_
  simp only [debt, ← run, snak, Bool.toNat_true, Bool.toNat_false]
  omega

theorem pays_dr25 (applies : (dr25 kickInDispatch).applies none none s = true)
    (fired : (dr25 kickInDispatch).fire pkt s = .go t) : Pays s t := by
  obtain ⟨run, -, srep⟩ : LinkState.run = s.link.state ∧ (xmitIdle s = true ∧ s.link.snak = false) ∧
      s.link.srep = true := by
    simpa [Rule.applies, dr25, snakSet, srepSet] using applies
  obtain ⟨v, sent, rfl⟩ := fire_first (f := fun v => startTimer (clearSREP v)) rfl (fun _ => rfl) fired
  refine pays_of_control sent (fun l => { l with srep := false, state := .run }) _ rfl fun k => ?_
  simp only [debt, ← run, srep, Bool.toNat_true, Bool.toNat_false]
  omega

theorem pays_dr28 (applies : (dr28 kickInDispatch).applies none none s = true)
    (fired : (dr28 kickInDispatch).fire pkt s = .go t) : Pays s t := by
  obtain ⟨run, -, sack, -⟩ : LinkState.run = s.link.state ∧ xmitIdle s = true ∧ s.link.sack = true ∧
      tIsNextNew s = true := by
    simpa [Rule.applies, dr28, sackSet, and_assoc] using applies
  obtain ⟨v, sent, rfl⟩ := fire_first (f := clearSACK) rfl (fun _ => rfl) fired
  refine pays_of_control sent (fun l => { l with sack := false, state := .run }) v.timer rfl fun k => ?_
  simp only [debt, ← run, sack, Bool.toNat_true, Bool.toNat_false]
  omega

/-- T is one step nearer to N + 1 (R246). -/
theorem pays_dr26 (applies : (dr26 kickInDispatch).applies none none s = true)
    (fired : (dr26 kickInDispatch).fire pkt s = .go t) : Pays s t := by
  obtain ⟨run, -, behind⟩ : LinkState.run = s.link.state ∧
      ((xmitIdle s = true ∧ s.link.snak = false) ∧ s.link.srep = false) ∧ tBehindNextNew s = true := by
    simpa [Rule.applies, dr26, snakSet, srepSet] using applies
  have other : s.link.t ≠ s.link.n + 1 := by
    intro same
    simp [tBehindNextNew, seqLT, inc, same] at behind
  obtain ⟨v, sent, rfl⟩ := fire_first (f := clearSACK) rfl (fun _ => rfl) fired
  simp only [retransmitT] at sent
  split at sent
  next => cases sent
  next h _ =>
    obtain ⟨w, staged, bumped⟩ := andThen_eq_go.mp sent
    cases bumped
    have kicked := txSend_staged staged
    refine pays_of_kicked kicked (follows_of_ledger rfl) (fun _ => rfl)
      { w.link with t := inc w.link.t, sack := false, state := .run } w.timer rfl fun k => ?_
    have nearer : (s.link.n + 1 - inc s.link.t).toNat < (s.link.n + 1 - s.link.t).toNat := by
      rw [inc]
      bv_omega
    simp only [debt, (kicked 0).link, ← run, Bool.toNat_false]
    omega

/-- The head of `transmit` goes to `ack_wait`, or is lost where that is full (R245). -/
theorem sendNewData_moves {h : Handle} {rest : List Handle} (kick : State → Flow) (cons : s.pool.transmit = h :: rest) :
    ∃ (item : TxItem) (p : Pool), sendNewData kick s =
        txSend kick item { s with link.n := s.link.n + 1, link.t := s.link.n + 1 + 1, pool := p } ∧
      p.transmit = rest ∧ p.ackWait.length ≤ s.pool.ackWait.length + 1 ∧ p.free = s.pool.free := by
  simp only [sendNewData, cons]
  refine ⟨_, _, rfl, rfl, ?_, rfl⟩
  have le : (listEnqueue s.cfg.window s.pool.ackWait h).2.length ≤ s.pool.ackWait.length + 1 := by
    unfold listEnqueue
    split <;> simp
  exact le

/-- A message moves from `transmit` to `ack_wait`, and T stays at N + 1 (R245). -/
theorem pays_dr27 (applies : (dr27 kickInDispatch).applies none none s = true)
    (fired : (dr27 kickInDispatch).fire pkt s = .go t) : Pays s t := by
  obtain ⟨run, queued⟩ : LinkState.run = s.link.state ∧ s.pool.transmit ≠ [] := by
    simp only [Rule.applies, dr27, Bool.and_eq_true, beq_iff_eq, userMessageQueued, decide_eq_true_eq,
      List.length_pos_iff] at applies
    tauto
  obtain ⟨v, sent, rfl⟩ := fire_first (f := clearSACK) rfl (fun _ => rfl) fired
  obtain ⟨h, rest, cons⟩ := List.exists_cons_of_ne_nil queued
  obtain ⟨item, p, moves, transmit, ackWait, free⟩ := sendNewData_moves kickInDispatch cons
  have kicked := txSend_staged (moves.symm.trans sent)
  refine pays_of_kicked kicked ?moved (fun _ => rfl) { v.link with sack := false, state := .run } v.timer rfl fun k => ?owed
  case moved =>
    refine ⟨rfl, ?_, fun room => by rwa [free], fun flying => ⟨flying, by rw [free], le_rfl, le_rfl⟩⟩
    simp only [stock, transmit, cons, List.length_cons]
    omega
  case owed =>
    simp only [debt, (kicked 0).link, transmit, ← run, cons, List.length_cons, Bool.toNat_false, BitVec.sub_self,
      BitVec.toNat_zero]
    omega

/-- The head of `transmit` goes to the host (R256). -/
theorem sendMaintMessage_moves {h : Handle} {rest : List Handle} (kick : State → Flow)
    (cons : s.pool.transmit = h :: rest) :
    ∃ (item : TxItem) (p : Pool), sendMaintMessage kick s = txSend kick item { s with pool := p } ∧
      p.transmit = rest ∧ p.ackWait = s.pool.ackWait ∧ p.free = s.pool.free := by
  simp only [sendMaintMessage, cons]
  exact ⟨_, _, rfl, rfl, rfl, rfl⟩

/-- A message moves from `transmit` to the host (R256). -/
theorem pays_dr05 (applies : (dr05 kickInDispatch).applies none none s = true)
    (fired : (dr05 kickInDispatch).fire pkt s = .go t) : Pays s t := by
  obtain ⟨maintenance, queued⟩ : LinkState.maintenance = s.link.state ∧ s.pool.transmit ≠ [] := by
    simp only [Rule.applies, dr05, Bool.and_eq_true, beq_iff_eq, userMessageQueued, decide_eq_true_eq,
      List.length_pos_iff] at applies
    tauto
  obtain ⟨v, sent, rfl⟩ := fire_first (f := id) rfl (fun _ => rfl) fired
  obtain ⟨h, rest, cons⟩ := List.exists_cons_of_ne_nil queued
  obtain ⟨item, p, moves, transmit, ackWait, free⟩ := sendMaintMessage_moves kickInDispatch cons
  have kicked := txSend_staged (moves.symm.trans sent)
  refine pays_of_kicked kicked ?moved (fun _ => rfl) { v.link with state := .maintenance } v.timer rfl fun k => ?owed
  case moved =>
    refine ⟨rfl, ?_, fun room => by rwa [free], fun flying => ⟨flying, by rw [free], le_rfl, le_rfl⟩⟩
    simp only [stock, transmit, ackWait, cons, List.length_cons]
    omega
  case owed =>
    simp only [debt, (kicked 0).link, transmit, ← maintenance, cons, List.length_cons]
    omega

theorem pays_of_idleEntry {r : Rule} {ev : Option EventKind} (mem : r ∈ idleEntries kickInDispatch)
    (applies : r.applies ev pkt s = true) (fired : r.fire pkt s = .go t) : Pays s t := by
  rw [idleEntries_applies mem] at applies
  simp only [idleEntries, List.mem_cons, List.not_mem_nil, or_false] at mem
  rcases mem with rfl | rfl | rfl | rfl | rfl | rfl
  · exact pays_dr05 applies fired
  · exact pays_dr24 applies fired
  · exact pays_dr25 applies fired
  · exact pays_dr26 applies fired
  · exact pays_dr27 applies fired
  · exact pays_dr28 applies fired

end

/-! ### The entries that no event brings (R269, R273, R283) -/

section
variable {s t : State} {ev : Option EventKind} {pkt : Option RxPkt} {k : Nat}

theorem charge_dr09 (applies : dr09.applies ev pkt s = true) (fired : dr09.fire pkt s = .go t) :
    charge k t ≤ charge k s := by
  obtain ⟨iStart, -⟩ := dr09_applies.mp applies
  obtain ⟨v, started, rfl⟩ := fire_first (f := id) rfl (fun _ => rfl) fired
  cases started
  simp only [charge, debt, iStart]
  exact le_rfl

theorem notify_link (code : EventCode) (s : State) : (notify code s).link = s.link := by
  unfold notify
  split <;> rfl

/-- What a disconnection puts back was counted while the link was in Run. -/
theorem charge_dr13 (le : stock s ≤ k) (applies : dr13.applies ev pkt s = true) (fired : dr13.fire pkt s = .go t) :
    charge k t ≤ charge k s := by
  obtain ⟨run, -⟩ := dr13_applies.mp applies
  obtain ⟨v, stopped, rfl⟩ :=
    fire_first (f := fun v => requeueAckWait (clearStartReceived (notifyDisconnect v))) rfl (fun _ => rfl) fired
  cases stopped
  have same : ledger (clearStartReceived (notifyDisconnect (stopTimer s))) = ledger s := notify_ledger _ _
  have link : (clearStartReceived (notifyDisconnect (stopTimer s))).link = s.link := notify_link _ _
  have kept := (follows_of_ledger same).stock_le
  have loaded := (load_requeueAckWait k _).trans (load_of_ledger k same)
  obtain ⟨d, m, requeued, most⟩ := requeueAckWait_stock (clearStartReceived (notifyDisconnect (stopTimer s)))
  rw [requeued] at loaded ⊢
  refine Nat.add_le_add loaded.le ?_
  simp only [debt, dr13, link, run, if_true, reduceCtorEq, if_false]
  omega

theorem charge_dr23 (run : s.link.state = .run) (fired : dr23.fire pkt s = .go t) : charge k t ≤ charge k s := by
  obtain ⟨v, numbered, rfl⟩ := fire_first (f := startOrStopTimerByAX) rfl (fun _ => rfl) fired
  cases numbered
  rw [Rules.startOrStopTimerByAX_closed]
  simp only [charge, debt, run]
  exact le_rfl

/-- What an event may bring: nothing for a scan with no event, and for a completed frame (R222). -/
def cost : Option EventKind → Nat
  | none => 0
  | some e => credit e

/-- An event that brings nothing is one that no entry is for, but DR23. -/
theorem unlisted_of_cost {ev : Option EventKind} (free : cost ev = 0) : ev = none ∨ ev = some .transmitDone := by
  match ev with
  | none => exact .inl rfl
  | some e =>
    right
    cases e <;> simp_all [cost, credit]

/-- An entry that fires: what it brings, the scan's event pays for. -/
theorem fire_charge {r : Rule} (le : stock s ≤ k) (mem : r ∈ ruleTable kickInDispatch)
    (applies : r.applies ev (scanPacket ev s) s = true) (fired : r.fire (scanPacket ev s) s = .go t) :
    Follows s t ∧ charge k t ≤ charge k s + perEvent k * cost ev := by
  rcases mem_ruleTable_iff.mp mem with idle | others
  · have pays := pays_of_idleEntry idle applies fired
    have empty : s.tx.inflight = none := by
      have xmitIdle := xmitIdle_of_idleEntry idle applies
      simp only [Machine.xmitIdle, Bool.and_eq_true, Option.isNone_iff_eq_none] at xmitIdle
      exact xmitIdle.1
    have brought := pays.load_le k
    have paid := pays.debt_lt k
    refine ⟨⟨pays.cfg, pays.stock_le, pays.free_le, fun flying => absurd empty flying⟩, ?_⟩
    simp only [charge]
    omega
  · obtain ⟨follows, brought⟩ := fire_staged (by simpa only [List.mem_cons] using others) fired
    refine ⟨follows, ?_⟩
    rcases Nat.eq_zero_or_pos (cost ev) with free | costly
    · have unlisted : Unlisted ev := (unlisted_of_cost free).imp_right fun sent => .inr (.inr sent)
      rw [scanPacket_unlisted unlisted] at applies fired
      rw [free, Nat.mul_zero]
      rcases others with rfl | rfl | rfl | event
      · exact charge_dr09 applies fired
      · exact charge_dr13 le applies fired
      · exact charge_dr23 (dr23_applies.mp applies).1 fired
      · rw [eventEntries_quiet unlisted r event] at applies
        cases applies
    · have owed := debt_le (follows.stock_le.trans le)
      have paid : perEvent k ≤ perEvent k * cost ev := Nat.le_mul_of_pos_right _ costly
      have staged := brought k
      simp only [perEvent] at paid ⊢
      simp only [charge]
      omega

/-- One scan of a dispatch. -/
theorem scan_charge (le : stock s ≤ k) (scanned : scan ev s = some (.go t)) :
    Follows s t ∧ charge k t ≤ charge k s + perEvent k * cost ev := by
  obtain ⟨j, r, at_j, applies, -, fired⟩ := scanFrom_eq_some_iff.mp scanned
  have mem := List.mem_of_getElem? at_j
  have applies : r.applies ev (scanPacket ev s) { s with disp.scanIndex := 0 + j } = true :=
    (applies_disp kickInDispatch ev _ s _ r mem).trans applies
  obtain ⟨follows, charged⟩ := fire_charge (s := { s with disp.scanIndex := 0 + j }) le mem applies fired.symm
  have begun : Follows s { s with disp.scanIndex := 0 + j } := follows_of_ledger rfl
  exact ⟨begun.trans follows, charged⟩

end

/-! ### A dispatch -/

section
variable {s t : State} {k : Nat}

theorem follows_takePending (e : EventKind) (s : State) : Follows s (takePending e s) := by
  refine ⟨rfl, le_rfl, id, fun flying => ⟨flying, le_rfl, le_rfl, ?_⟩⟩
  cases e <;> simp [credits, pendingSet]

theorem charge_takePending {e : EventKind} (pending : pendingFirst s.disp.pending = some e) :
    charge k (takePending e s) + perEvent k * credit e = charge k s := by
  have taken := credits_taken (List.find?_some pending)
  have paid : perEvent k * credits (pendingSet s.disp.pending e false) + perEvent k * credit e =
      perEvent k * credits s.disp.pending := by
    rw [← Nat.mul_add, taken]
  simp only [charge, load, takePending_tx, takePending_disp, takePending_env]
  have same : debt k (takePending e s) = debt k s := rfl
  omega

theorem dispatchLoop_charge : ∀ {n : Nat} {ev : Option EventKind} {s : State}, stock s ≤ k →
    dispatchLoop n ev s = .go t → Follows s t ∧ charge k t ≤ charge k s + perEvent k * cost ev
  | 0, _, _, _, went => nomatch went
  | n + 1, ev, s, le, went => by
    have begun : Follows s { s with disp.curEvent := ev } := follows_of_ledger rfl
    have charged : charge k { s with disp.curEvent := ev } = charge k s := rfl
    simp only [dispatchLoop] at went
    split at went
    next => cases went
    next => cases went
    next s1 scanned =>
      obtain ⟨follows, brought⟩ := scan_charge (k := k) (s := { s with disp.curEvent := ev }) le scanned
      have follows := begun.trans follows
      have le := follows.stock_le.trans le
      split at went
      next e pending =>
        obtain ⟨others, rest⟩ := dispatchLoop_charge (s := takePending e s1) le went
        have paid := charge_takePending (k := k) pending
        exact ⟨follows.trans ((follows_takePending e s1).trans others), (rest.trans paid.le).trans brought⟩
      next =>
        obtain ⟨others, rest⟩ := dispatchLoop_charge le went
        exact ⟨follows.trans others, rest.trans brought⟩
    next =>
      split at went
      next e pending =>
        obtain ⟨others, rest⟩ := dispatchLoop_charge (s := takePending e { s with disp.curEvent := ev }) le went
        have paid := charge_takePending (k := k) (s := { s with disp.curEvent := ev }) pending
        exact ⟨begun.trans ((follows_takePending e _).trans others), rest.trans (Nat.le_add_right_of_le paid.le)⟩
      next =>
        cases went
        exact ⟨follows_of_ledger rfl, Nat.le_add_right_of_le charged.le⟩

/-- A completed frame, outside a dispatch or inside one, brings nothing. -/
theorem dispatch_transmitDone_charge (went : dispatch .transmitDone s = .go t) (le : stock s ≤ k) :
    stock t ≤ stock s ∧ t.cfg = s.cfg ∧ (s.pool.free.length ≤ s.cfg.window → t.pool.free.length ≤ t.cfg.window) ∧
      charge k t ≤ charge k s := by
  simp only [dispatch] at went
  split at went
  next =>
    cases went
    exact ⟨le_rfl, rfl, id, le_rfl⟩
  next =>
    split at went
    next =>
      cases went
      exact ⟨le_rfl, rfl, id, Nat.add_le_add_right (load_postEvent k .transmitDone s) _⟩
    next =>
      obtain ⟨follows, charged⟩ := dispatchLoop_charge (s := enterDispatch s) le went
      exact ⟨follows.stock_le, follows.cfg, follows.free_le, charged⟩

/-- A packet that is received. -/
theorem follows_dispatch_packetReceived (went : dispatch .packetReceived s = .go t) : Follows s t := by
  simp only [dispatch] at went
  split at went
  next =>
    cases went
    exact follows_of_ledger rfl
  next =>
    split at went
    next =>
      cases went
      exact ⟨rfl, le_rfl, id, fun flying => ⟨flying, le_rfl, le_rfl, le_rfl⟩⟩
    next =>
      have begun : Follows s (enterDispatch s) := follows_of_ledger rfl
      exact begun.trans (dispatchLoop_charge (k := stock s) (s := enterDispatch s) le_rfl went).1

theorem follows_onReceive {b : List Byte} (went : onReceive b s = .go t) : Follows s t := by
  have heard : Follows s (heard b s).2 := follows_of_ledger (heard_ledger s b)
  simp only [onReceive] at went
  split at went
  next =>
    cases went
    exact follows_of_ledger rfl
  next =>
    split at went
    next rx _ =>
      have taken : Follows (Machine.heard b s).2 { (Machine.heard b s).2 with tx.rxPkt := some rx } := follows_of_ledger rfl
      exact heard.trans (taken.trans (follows_dispatch_packetReceived went))
    next =>
      cases went
      exact heard

/-- The frames that the transport delivers inside a send, received one by one. -/
theorem follows_receptions : ∀ {frames : List (List Byte)} {s : State}, runActions (frames.map onReceive) s = .go t →
    Follows s t
  | [], s, went => by
    cases went
    exact follows_of_ledger rfl
  | b :: frames, s, went => by
    obtain ⟨u, first, others⟩ := andThen_eq_go.mp went
    exact (follows_onReceive first).trans (follows_receptions others)

end

/-! ### The transmitter outside a dispatch -/

/-- What the measure is used with: a bound of the buffers, and of the descriptors. -/
structure Bounded (k : Nat) (s : State) : Prop where
  stock_le : stock s ≤ k
  free_le : s.pool.free.length ≤ s.cfg.window
  window_le : s.cfg.window ≤ 126

section
variable {k : Nat} {s t : State} {item : TxItem} {rest : List TxItem}

/-- A frame that lands outside a dispatch, and what its event brings. -/
theorem landed_charge (bounded : Bounded k s) (went : dispatch .transmitDone (landFlight item s) = .go t) :
    Bounded k t ∧ charge k t ≤ charge k s := by
  obtain ⟨l, landed, room⟩ := landFlight_free item s
  rw [landed] at went
  obtain ⟨stock_le, cfg, free_le, charged⟩ := dispatch_transmitDone_charge (k := k) went bounded.stock_le
  exact ⟨⟨stock_le.trans bounded.stock_le, free_le (room bounded.free_le), cfg ▸ bounded.window_le⟩, charged⟩

/-- The head of `tx_fifo` leaves. -/
theorem offered_charge (bounded : Bounded k s) (cons : s.tx.fifo = item :: rest) :
    Bounded k (takeFlight item rest (offerFrame item.bytes s).2) ∧
      charge k (takeFlight item rest (offerFrame item.bytes s).2) + 1 ≤ charge k s := by
  have paid := load_offered k cons
  obtain ⟨e, kept⟩ := offerFrame_kept item.bytes s
  rw [kept] at paid ⊢
  refine ⟨⟨bounded.stock_le, bounded.free_le, bounded.window_le⟩, ?_⟩
  have same : debt k (takeFlight item rest { s with env := e }) = debt k s := rfl
  simp only [charge]
  omega

/-- While a frame is in flight the link stages no more frames than `free` has descriptors, whatever it hears. -/
theorem waits_charge (waits : Waits s t) (free_le : s.pool.free.length ≤ 126) (le : stock t ≤ k) :
    charge k t ≤ load k s + perAnswer k := by
  have owed := debt_le le
  have slots := waits.slots
  have listed := Nat.mul_le_mul_left (perAnswer k) waits.answers
  have pending : perEvent k * credits t.disp.pending ≤ perEvent k * credits s.disp.pending + perEvent k := by
    rw [← Nat.mul_succ]
    exact Nat.mul_le_mul_left _ ((credits_le_posted _ _).trans (waits.pending.trans (credits_posted _ _)))
  have whole : perAnswer k = perEvent k + (2 * k + 258) + 126 := by
    simp only [perAnswer, perEvent]
    omega
  simp only [charge, load]
  omega

/-- The answer pays for the frames that it delivers. -/
theorem receptions_charge {frames : List (List Byte)} {completes : Bool} (bounded : Bounded k s)
    (cons : s.tx.fifo = item :: rest) (answer : (offerFrame item.bytes s).1 = .acceptedReceiving frames completes)
    (went : runActions (frames.map onReceive) (takeFlight item rest (offerFrame item.bytes s).2) = .go t) :
    Bounded k t ∧ charge k t + 1 ≤ charge k s := by
  have paid := load_offered k cons
  rw [answer, delivers, Nat.mul_one] at paid
  obtain ⟨⟨stock_le, free_le, window_le⟩, -⟩ := offered_charge bounded cons
  have follows := follows_receptions went
  have left := follows.stock_le.trans stock_le
  have charged := waits_charge (follows.waits (Option.some_ne_none item)) (free_le.trans window_le) left
  refine ⟨⟨left, follows.free_le free_le, follows.cfg ▸ window_le⟩, ?_⟩
  have whole : load k s ≤ charge k s := Nat.le_add_right _ _
  omega

/-- Two bounds of the loop of `tx_kick` that both exceed the measure give the same. -/
theorem kickIdle_congr : ∀ {n m : Nat} {s : State}, Bounded k s → charge k s < n → charge k s < m →
    kickIdle n s = kickIdle m s
  | 0, _, _, _, small, _ => absurd small (Nat.not_lt_zero _)
  | _, 0, _, _, _, small => absurd small (Nat.not_lt_zero _)
  | n + 1, m + 1, s, bounded, hn, hm => by
    have landed : ∀ {item : TxItem} {t : State}, Bounded k t → charge k t + 1 ≤ charge k s →
        (dispatch .transmitDone (landFlight item t)).andThen (kickIdle n) =
          (dispatch .transmitDone (landFlight item t)).andThen (kickIdle m) := by
      intro item t bounded less
      cases went : dispatch .transmitDone (landFlight item t) with
      | go u =>
        obtain ⟨bounded, charged⟩ := landed_charge bounded went
        exact kickIdle_congr bounded (by omega) (by omega)
      | ended => rfl
      | overrun => rfl
    simp only [kickIdle]
    split
    next => rfl
    next =>
      split
      next => rfl
      next item rest cons =>
        split
        next => rfl
        next => rfl
        next =>
          obtain ⟨bounded, less⟩ := offered_charge bounded cons
          exact landed bounded less
        next frames completes answer =>
          cases went : runActions (frames.map onReceive) (takeFlight item rest (offerFrame item.bytes s).2) with
          | go t =>
            obtain ⟨bounded, less⟩ := receptions_charge bounded cons answer went
            simp only [Flow.andThen]
            split
            next => exact landed bounded less
            next => rfl
          | ended => rfl
          | overrun => rfl

end

/-! ### The obligation -/

/-- A dispatch that goes on has left the dispatcher. -/
theorem dispatchLoop_scanning : ∀ {n : Nat} {ev : Option EventKind} {s t : State}, dispatchLoop n ev s = .go t →
    t.disp.scanning = false
  | 0, _, _, _, went => nomatch went
  | n + 1, ev, s, t, went => by
    simp only [dispatchLoop] at went
    split at went
    next => cases went
    next => cases went
    next => split at went <;> exact dispatchLoop_scanning went
    next =>
      split at went
      next => exact dispatchLoop_scanning went
      next =>
        cases went
        rfl

theorem bounded_of_owned {s : State} (owned : Owned s) (range : s.cfg.InRange) : Bounded (stock s) s := by
  obtain ⟨-, small, -⟩ := range
  have all : (holders s).length = s.cfg.window := owned.once.length_eq.trans List.length_range
  refine ⟨le_rfl, ?_, by simp only [Config.window]; omega⟩
  rw [← all, holders]
  simp only [List.length_append]
  omega

section
variable {s s1 : State} {x : TxItem} {xs : List TxItem}

/-- While a dispatch runs the completion is posted, and the kick goes on with the frames that are left. -/
theorem txKick_completes_scanning (live : s.latch.fatal = false) (scanning : s.disp.scanning = true)
    (idle : s.tx.inflight = none) (cons : s.tx.fifo = x :: xs) (offered : offerFrame x.bytes s = (.acceptedNow, s1)) :
    txKick s = (dispatch .transmitDone (landFlight x (takeFlight x xs s1))).andThen txKick := by
  have kept := offerFrame_eq offered
  obtain ⟨l, landed, -⟩ := landFlight_free x (takeFlight x xs s1)
  have turn : txKick s =
      .go (kickScanning xs.length (dispatchScanning .transmitDone (landFlight x (takeFlight x xs s1)))) := by
    simp [txKick, scanning, kickInDispatch, cons, kickScanning, idle, offered]
  rw [turn, landed, kept]
  simp [dispatch, dispatchScanning, live, scanning, Flow.andThen, txKick, kickInDispatch]

/-- Outside a dispatch the completion is dispatched, and the kick that follows has a bound that exceeds what is left. -/
theorem txKick_completes_idle (owned : Owned s) (range : s.cfg.InRange) (live : s.latch.fatal = false)
    (resting : s.disp.scanning = false) (idle : s.tx.inflight = none) (cons : s.tx.fifo = x :: xs)
    (offered : offerFrame x.bytes s = (.acceptedNow, s1)) :
    txKick s = (dispatch .transmitDone (landFlight x (takeFlight x xs s1))).andThen txKick := by
  have bounded := bounded_of_owned owned range
  have enough := charge_lt_budget s
  obtain ⟨n, hn⟩ := budget_pos s
  obtain ⟨bounded', less⟩ := offered_charge bounded cons
  have kept := offerFrame_eq offered
  rw [offered] at bounded' less
  have turn : txKick s = (dispatch .transmitDone (landFlight x (takeFlight x xs s1))).andThen (kickIdle n) := by
    simp [txKick, resting, hn, kickIdle, idle, cons, offered]
  rw [turn]
  cases went : dispatch .transmitDone (landFlight x (takeFlight x xs s1)) with
  | ended => rfl
  | overrun => rfl
  | go t =>
    obtain ⟨⟨stock_le, free_le, window_le⟩, charged⟩ := landed_charge bounded' went
    have left : t.disp.scanning = false := by
      obtain ⟨l, landed, -⟩ := landFlight_free x (takeFlight x xs s1)
      rw [dispatch_of_idle (by rw [landed, kept]; exact live) (by rw [landed, kept]; exact resting)] at went
      exact dispatchLoop_scanning went
    have again : txKick t = kickIdle (budget t) t := by simp [txKick, left]
    have smaller := charge_mono stock_le t
    exact (kickIdle_congr ⟨le_rfl, free_le, window_le⟩ (by omega) (charge_lt_budget t)).trans again.symm

end

/-- Settles O33: where the send completes inside `send`, both sides land the frame and dispatch its completion, and then kick
with bounds that the frames still to leave do not meet. -/
theorem synchronousSendIsSendThenComplete : Obligations.SynchronousSendIsSendThenComplete := by
  refine ⟨fun s => exec_onTransmitComplete, fun s s1 x xs owned range live idle cons offered => ?_⟩
  have kept := offerFrame_eq offered
  have flying : exec .transmitComplete (takeFlight x xs s1) =
      ((dispatch .transmitDone (landFlight x (takeFlight x xs s1))).andThen txKick).outcome := by
    rw [exec_transmitComplete (by rw [kept]; exact live), transmitComplete_some (item := x) rfl]
  refine Eq.trans ?_ flying.symm
  rw [exec_txKick live]
  cases scanning : s.disp.scanning with
  | true => exact congrArg _ (txKick_completes_scanning live scanning idle cons offered)
  | false => exact congrArg _ (txKick_completes_idle owned range live scanning idle cons offered)

end Sys2Proof.Proofs.Kicks

/-! SUPPORT. The decoder and the encoder of wire frames (30_encoding.md): the fields of a header put together and taken apart,
what the decoder answers at each of its two levels, and which byte strings it rejects. -/

namespace Sys2Proof.Proofs.Frames

open Sys2Proof.Machine Sys2Proof.Proofs.Parse

/-! ### Header fields put together and taken apart (R63, R83, R84) -/

section
variable (w : Word16) (b0 b1 b2 lo hi : Byte)

@[simp] theorem wordOf_bytes : wordOf (lowByte w) (highByte w) = w :=
  BitVec.extractLsb'_append_extractLsb' (w := 8) (len := 8)

@[simp] theorem lowByte_wordOf : lowByte (wordOf lo hi) = lo := BitVec.extractLsb'_append_eq_right

@[simp] theorem highByte_wordOf : highByte (wordOf lo hi) = hi := BitVec.extractLsb'_append_eq_left

@[simp] theorem byte2Of_fields : byte2Of (flagsOf b2) (low6Of b2) = b2 :=
  BitVec.extractLsb'_append_extractLsb' (w := 2) (len := 6)

@[simp] theorem countLow_countOf : countLow (countOf b1 b2) = b1 := BitVec.extractLsb'_append_eq_right

@[simp] theorem countHigh_countOf : countHigh (countOf b1 b2) = low6Of b2 := BitVec.extractLsb'_append_eq_left

end

/-! ### Level 1 and level 2 of the decoder (R82, R91, R103) -/

section
variable {b0 b1 b2 b3 b4 b5 b6 b7 : Byte} {body rest : List Byte} {mk : List Byte → Word16 → Instr} {count : Nat}
  {h : ControlHeader} {hd : DataHeader} {i : Instr}

/-- The fields of a control frame's header as the decoder reads them (R90). -/
def readControl (b2 b3 b4 b5 b6 b7 : Byte) : ControlHeader :=
  { flags := flagsOf b2, subfield := low6Of b2, resp := b3, num := b4, addr := b5, hcrc := wordOf b6 b7 }

/-- The fields of a data or maintenance frame's header as the decoder reads them (R88). -/
def readData (b1 b2 b3 b4 b5 b6 b7 : Byte) : DataHeader :=
  { flags := flagsOf b2, count := countOf b1 b2, resp := b3, num := b4, addr := b5, hcrc := wordOf b6 b7 }

theorem decode_enq : decode (typeENQ :: b1 :: b2 :: b3 :: b4 :: b5 :: b6 :: b7 :: body) =
    decodeControl b1 (readControl b2 b3 b4 b5 b6 b7) body := rfl

theorem decode_soh : decode (typeSOH :: b1 :: b2 :: b3 :: b4 :: b5 :: b6 :: b7 :: body) =
    decodeBody (.data (readData b1 b2 b3 b4 b5 b6 b7)) (countOf b1 b2).toNat body := rfl

theorem decode_dle : decode (typeDLE :: b1 :: b2 :: b3 :: b4 :: b5 :: b6 :: b7 :: body) =
    decodeBody (.maint (readData b1 b2 b3 b4 b5 b6 b7)) (countOf b1 b2).toNat body := rfl

theorem decode_badType (enq : b0 ≠ typeENQ) (soh : b0 ≠ typeSOH) (dle : b0 ≠ typeDLE) :
    decode (b0 :: b1 :: b2 :: b3 :: b4 :: b5 :: b6 :: b7 :: body) = .reject .badType := by
  simp only [decode, if_neg enq, if_neg soh, if_neg dle]

theorem decode_short : ∀ {bs : List Byte}, bs.length < 8 → decode bs = .reject .tooShort
  | [], _ | [_], _ | [_, _], _ | [_, _, _], _ | [_, _, _, _], _ | [_, _, _, _, _], _ | [_, _, _, _, _, _], _
  | [_, _, _, _, _, _, _], _ => rfl
  | _ :: _ :: _ :: _ :: _ :: _ :: _ :: _ :: _, short => absurd short (by simp)

/-- A string of at least a header's length is its eight header bytes and the rest. -/
theorem eq_cons_of_long : ∀ {bs : List Byte}, 8 ≤ bs.length →
    ∃ b0 b1 b2 b3 b4 b5 b6 b7 body, bs = b0 :: b1 :: b2 :: b3 :: b4 :: b5 :: b6 :: b7 :: body
  | b0 :: b1 :: b2 :: b3 :: b4 :: b5 :: b6 :: b7 :: body, _ => ⟨b0, b1, b2, b3, b4, b5, b6, b7, body, rfl⟩
  | [], long | [_], long | [_, _], long | [_, _, _], long | [_, _, _, _], long | [_, _, _, _, _], long
  | [_, _, _, _, _, _], long | [_, _, _, _, _, _, _], long => absurd long (by simp)

theorem header_fields (h : ControlHeader) :
    readControl (byte2Of h.flags h.subfield) h.resp h.num h.addr (lowByte h.hcrc) (highByte h.hcrc) = h := by
  simp [readControl]

theorem dataHeader_fields (hd : DataHeader) :
    readData (countLow hd.count) (byte2Of hd.flags (countHigh hd.count)) hd.resp hd.num hd.addr (lowByte hd.hcrc)
      (highByte hd.hcrc) = hd := by
  simp [readData]

/-- The bytes of a control frame whose header was read. -/
theorem encodeControl_read (sub : Byte) :
    encodeControl sub (readControl b2 b3 b4 b5 b6 b7) = [typeENQ, sub, b2, b3, b4, b5, b6, b7] := by
  simp [encodeControl, readControl]

/-- The bytes of a data or maintenance frame whose header was read. -/
theorem encodeData_read (type : Byte) (payload : List Byte) (dcrc : Word16) :
    encodeData type (readData b1 b2 b3 b4 b5 b6 b7) payload dcrc =
      [type, b1, b2, b3, b4, b5, b6, b7] ++ payload ++ [lowByte dcrc, highByte dcrc] := by
  simp [encodeData, readData]

/-! ### A control frame (R91) -/

/-- The sub-type decides the instruction, or that there is none. -/
theorem decodeControl_cases (b1 : Byte) (h : ControlHeader) (rest : List Byte) :
    (b1 = ctlAck ∧ decodeControl b1 h rest = .instr (.ack h) rest) ∨
    (b1 = ctlNak ∧ decodeControl b1 h rest = .instr (.nak h) rest) ∨
    (b1 = ctlRep ∧ decodeControl b1 h rest = .instr (.rep h) rest) ∨
    (b1 = ctlStrt ∧ decodeControl b1 h rest = .instr (.strt h) rest) ∨
    (b1 = ctlStack ∧ decodeControl b1 h rest = .instr (.stack h) rest) ∨
    ((b1 ≠ 1 ∧ b1 ≠ 2 ∧ b1 ≠ 3 ∧ b1 ≠ 6 ∧ b1 ≠ 7) ∧ decodeControl b1 h rest = .reject .badSubtype) := by
  by_cases ack : b1 = ctlAck
  · subst ack; exact .inl ⟨rfl, rfl⟩
  by_cases nak : b1 = ctlNak
  · subst nak; exact .inr (.inl ⟨rfl, rfl⟩)
  by_cases rep : b1 = ctlRep
  · subst rep; exact .inr (.inr (.inl ⟨rfl, rfl⟩))
  by_cases strt : b1 = ctlStrt
  · subst strt; exact .inr (.inr (.inr (.inl ⟨rfl, rfl⟩)))
  by_cases stack : b1 = ctlStack
  · subst stack; exact .inr (.inr (.inr (.inr (.inl ⟨rfl, rfl⟩))))
  refine .inr (.inr (.inr (.inr (.inr ⟨⟨ack, nak, rep, strt, stack⟩, ?_⟩))))
  simp only [decodeControl, if_neg ack, if_neg nak, if_neg rep, if_neg strt, if_neg stack]

/-! ### The body of a data or maintenance frame (R89, R99) -/

theorem decodeBody_short (short : body.length < count + 2) : decodeBody mk count body = .reject .truncated := if_pos short

/-- A body that is long enough is its payload, the two bytes of the data CRC, and what follows. -/
theorem decodeBody_enough (enough : count + 2 ≤ body.length) : ∃ payload c0 c1 rest,
    body = payload ++ [c0, c1] ++ rest ∧ payload.length = count ∧
      decodeBody mk count body = .instr (mk payload (wordOf c0 c1)) rest := by
  have dropped : 2 ≤ (body.drop count).length := by rw [List.length_drop]; omega
  match tail : body.drop count with
  | [] | [_] => rw [tail] at dropped; simp at dropped
  | c0 :: c1 :: rest =>
    refine ⟨body.take count, c0, c1, rest, ?_, by rw [List.length_take]; omega, ?_⟩
    · rw [List.append_assoc]
      exact (List.take_append_drop count body).symm.trans (by rw [tail]; rfl)
    · simp only [decodeBody, if_neg (Nat.not_lt.mpr enough), tail]

theorem decodeBody_append (payload rest : List Byte) (c : Word16) :
    decodeBody mk payload.length (payload ++ [lowByte c, highByte c] ++ rest) = .instr (mk payload c) rest := by
  have enough : ¬ (payload ++ [lowByte c, highByte c] ++ rest).length < payload.length + 2 := by simp
  have drop : (payload ++ [lowByte c, highByte c] ++ rest).drop payload.length = lowByte c :: highByte c :: rest := by
    simp
  have take : (payload ++ [lowByte c, highByte c] ++ rest).take payload.length = payload := by simp
  simp only [decodeBody, if_neg enough, drop, take, wordOf_bytes]

end

/-! ### Decoding what was encoded -/

section
variable {h : ControlHeader} {hd : DataHeader} {payload rest : List Byte} {dcrc : Word16}

theorem decode_encodeControl (sub : Byte) (h : ControlHeader) (rest : List Byte) :
    decode (encodeControl sub h ++ rest) = decodeControl sub h rest := by
  have bytes : decode (encodeControl sub h ++ rest) = decodeControl sub
      (readControl (byte2Of h.flags h.subfield) h.resp h.num h.addr (lowByte h.hcrc) (highByte h.hcrc)) rest := decode_enq
  rw [bytes, header_fields]

/-- A frame with a payload of the length that its header counts. -/
theorem decode_encodeData {type : Byte} {mk : DataHeader → List Byte → Word16 → Instr}
    (level1 : ∀ b1 b2 b3 b4 b5 b6 b7 body, decode (type :: b1 :: b2 :: b3 :: b4 :: b5 :: b6 :: b7 :: body) =
      decodeBody (mk (readData b1 b2 b3 b4 b5 b6 b7)) (countOf b1 b2).toNat body)
    (counted : payload.length = hd.count.toNat) :
    decode (encodeData type hd payload dcrc ++ rest) = .instr (mk hd payload dcrc) rest := by
  have bytes : encodeData type hd payload dcrc ++ rest = type :: countLow hd.count ::
      byte2Of hd.flags (countHigh hd.count) :: hd.resp :: hd.num :: hd.addr :: lowByte hd.hcrc :: highByte hd.hcrc ::
        (payload ++ [lowByte dcrc, highByte dcrc] ++ rest) := by
    simp [encodeData]
  rw [bytes, level1, dataHeader_fields, countOf_count, ← counted, decodeBody_append]

end

/-- Settles O1: the two levels of the decoder undo the two of the encoder, frame kind by frame kind. -/
theorem decodeInvertsEncode : Obligations.DecodeInvertsEncode := by
  intro i b rest wf encoded
  cases i
  case data hd payload dcrc =>
    cases encoded
    exact decode_encodeData (mk := .data) (fun _ _ _ _ _ _ _ _ => decode_soh) (beq_iff_eq.mp wf)
  case maint hd payload dcrc =>
    cases encoded
    exact decode_encodeData (mk := .maint) (fun _ _ _ _ _ _ _ _ => decode_dle) (beq_iff_eq.mp wf)
  case ack h | nak h | rep h | strt h | stack h =>
    cases encoded
    exact decode_encodeControl _ h rest
  all_goals cases encoded

/-! ### What was decoded -/

section
variable {b0 b1 b2 b3 b4 b5 b6 b7 : Byte} {body rest : List Byte} {i : Instr}

/-- An instruction that the decoder reads from a control frame. -/
theorem decodeControl_eq_instr {h : ControlHeader} (read : decodeControl b1 h body = .instr i rest) :
    i.wellFormed = true ∧ encode i = some (encodeControl b1 h) ∧ rest = body := by
  rcases decodeControl_cases b1 h body with ⟨rfl, is⟩ | ⟨rfl, is⟩ | ⟨rfl, is⟩ | ⟨rfl, is⟩ | ⟨rfl, is⟩ | ⟨-, is⟩ <;>
    cases is.symm.trans read
  all_goals exact ⟨rfl, rfl, rfl⟩

/-- An instruction that the decoder reads from a body: a payload of the length counted, and the bytes that it was read from. -/
theorem decodeBody_eq_instr {mk : List Byte → Word16 → Instr} {count : Nat} (read : decodeBody mk count body = .instr i rest) :
    ∃ payload c, i = mk payload c ∧ payload.length = count ∧ body = payload ++ [lowByte c, highByte c] ++ rest := by
  rcases Nat.lt_or_ge body.length (count + 2) with short | enough
  · cases (decodeBody_short short).symm.trans read
  · obtain ⟨payload, c0, c1, after, parts, length, is⟩ := decodeBody_enough (mk := mk) enough
    cases is.symm.trans read
    exact ⟨payload, wordOf c0 c1, rfl, length, by rw [lowByte_wordOf, highByte_wordOf, parts]⟩

end

/-- Settles O2: the fields read from a header give its bytes back, and the payload is as long as the header counts. -/
theorem decodedBytesAreTheEncoding : Obligations.DecodedBytesAreTheEncoding := by
  intro bs rest i read
  rcases Nat.lt_or_ge bs.length 8 with short | long
  · cases (decode_short short).symm.trans read
  obtain ⟨b0, b1, b2, b3, b4, b5, b6, b7, body, rfl⟩ := eq_cons_of_long long
  by_cases enq : b0 = typeENQ
  case pos =>
    subst enq
    obtain ⟨wf, encoded, rfl⟩ := decodeControl_eq_instr (decode_enq.symm.trans read)
    exact ⟨wf, _, encoded, by rw [encodeControl_read]; rfl⟩
  by_cases soh : b0 = typeSOH
  case pos =>
    subst soh
    obtain ⟨payload, c, rfl, length, rfl⟩ := decodeBody_eq_instr (decode_soh.symm.trans read)
    exact ⟨beq_iff_eq.mpr length, _, rfl, by rw [encodeData_read]; simp⟩
  by_cases dle : b0 = typeDLE
  case pos =>
    subst dle
    obtain ⟨payload, c, rfl, length, rfl⟩ := decodeBody_eq_instr (decode_dle.symm.trans read)
    exact ⟨beq_iff_eq.mpr length, _, rfl, by rw [encodeData_read]; simp⟩
  cases (decode_badType enq soh dle).symm.trans read

/-! ### Rejections (R100) -/

section
variable {b1 : Byte} {body : List Byte} {h : ControlHeader} {mk : List Byte → Word16 → Instr} {count : Nat}

theorem decodeControl_reject_iff {e : DecodeError} : decodeControl b1 h body = .reject e ↔
    e = .badSubtype ∧ b1 ≠ 1 ∧ b1 ≠ 2 ∧ b1 ≠ 3 ∧ b1 ≠ 6 ∧ b1 ≠ 7 := by
  rcases decodeControl_cases b1 h body with ⟨rfl, is⟩ | ⟨rfl, is⟩ | ⟨rfl, is⟩ | ⟨rfl, is⟩ | ⟨rfl, is⟩ | ⟨unlisted, is⟩ <;>
    rw [is]
  case inr.inr.inr.inr.inr =>
    rw [Decoded.reject.injEq, @eq_comm _ DecodeError.badSubtype]
    exact (and_iff_left unlisted).symm
  all_goals simp [ctlAck, ctlNak, ctlRep, ctlStrt, ctlStack]

theorem decodeBody_reject_iff {e : DecodeError} : decodeBody mk count body = .reject e ↔
    e = .truncated ∧ body.length < count + 2 := by
  rcases Nat.lt_or_ge body.length (count + 2) with short | enough
  · simp [decodeBody_short short, short, eq_comm]
  · obtain ⟨_, _, _, _, -, -, is⟩ := decodeBody_enough (mk := mk) enough
    simp [is, enough]

end

/-- Settles O3: what each of the three types can be rejected for, and that every other type is rejected. -/
theorem illegalEncodingsRejectedByName : Obligations.IllegalEncodingsRejectedByName := by
  have types : ∀ b0 : Byte, b0 = typeENQ ∨ b0 = typeSOH ∨ b0 = typeDLE ∨
      (b0 ≠ typeENQ ∧ b0 ≠ typeSOH ∧ b0 ≠ typeDLE) := by
    intro b0; tauto
  have named : ∀ (b0 b1 b2 b3 b4 b5 b6 b7 : Byte) (body : List Byte) (e : DecodeError),
      decode (b0 :: b1 :: b2 :: b3 :: b4 :: b5 :: b6 :: b7 :: body) = .reject e ↔
        (e = .badType ∧ b0 ≠ 0x81 ∧ b0 ≠ 0x05 ∧ b0 ≠ 0x90) ∨
        (e = .badSubtype ∧ b0 = 0x05 ∧ b1 ≠ 1 ∧ b1 ≠ 2 ∧ b1 ≠ 3 ∧ b1 ≠ 6 ∧ b1 ≠ 7) ∨
        (e = .truncated ∧ (b0 = 0x81 ∨ b0 = 0x90) ∧ body.length < (countOf b1 b2).toNat + 2) := by
    intro b0 b1 b2 b3 b4 b5 b6 b7 body e
    rcases types b0 with rfl | rfl | rfl | ⟨enq, soh, dle⟩
    · rw [decode_enq, decodeControl_reject_iff]
      simp [typeENQ]
    · rw [decode_soh, decodeBody_reject_iff]
      simp [typeSOH]
    · rw [decode_dle, decodeBody_reject_iff]
      simp [typeDLE]
    · rw [decode_badType enq soh dle]
      have noMessage : ¬ (b0 = 0x81 ∨ b0 = 0x90) := fun type => type.elim soh dle
      rw [Decoded.reject.injEq, @eq_comm _ DecodeError.badType]
      exact ⟨fun bad => .inl ⟨bad, soh, enq, dle⟩,
        fun cause => cause.elim And.left (·.elim (fun h => absurd h.2.1 enq) fun h => absurd h.2.1 noMessage)⟩
  refine ⟨fun bs => ⟨fun rejected => ?short, decode_short⟩, fun b0 b1 b2 b3 b4 b5 b6 b7 body => ?_⟩
  case short =>
    by_contra notShort
    obtain ⟨b0, b1, b2, b3, b4, b5, b6, b7, body, rfl⟩ := eq_cons_of_long (Nat.not_lt.mp notShort)
    simpa using (named b0 b1 b2 b3 b4 b5 b6 b7 body .tooShort).mp rejected
  · simp only [named, reduceCtorEq, false_and, true_and, or_false, false_or, toNat_countOf, List.length_cons]
    exact and_congr_right fun _ => by omega

/-- Settles O4: the decoder run on each of the written-out frames. -/
theorem writtenFramesDecode : Obligations.WrittenFramesDecode :=
  ⟨rfl, rfl, rfl, rfl, rfl, rfl, rfl⟩

end Sys2Proof.Proofs.Frames

/-! SUPPORT. The CRC as a linear map (40_crc16.md R110 to R113): bit steps are linear, so a word is its low nibble, which the
table stands for, and the rest, which only shifts. -/

namespace Sys2Proof.Proofs.CrcTable

open Sys2Proof.Machine Sys2Proof.Proofs.Crc

/-! ### Bit steps are linear -/

section
variable (x y : Word16)

theorem crcBit_eq_xor : crcBit x = (x >>> 1) ^^^ if x.getLsbD 0 then crcMask else 0 := by
  unfold crcBit
  split <;> simp

theorem crcBit_xor : crcBit (x ^^^ y) = crcBit x ^^^ crcBit y := by
  have masks : ∀ a b : Bool, (if (a ^^ b) = true then crcMask else 0) =
      (if a = true then crcMask else 0) ^^^ (if b = true then crcMask else 0) := by decide
  simp only [crcBit_eq_xor, BitVec.ushiftRight_xor_distrib, BitVec.getLsbD_xor, masks]
  ac_rfl

theorem crcBits4_xor : crcBits4 (x ^^^ y) = crcBits4 x ^^^ crcBits4 y := by simp only [crcBits4, crcBit_xor]

theorem crcByte_xor (a b : Byte) : crcByte (x ^^^ y) (a ^^^ b) = crcByte x a ^^^ crcByte y b := by
  have parts : (x ^^^ y) ^^^ (a ^^^ b).setWidth 16 = (x ^^^ a.setWidth 16) ^^^ (y ^^^ b.setWidth 16) := by
    rw [BitVec.setWidth_xor]
    ac_rfl
  simp only [crcByte, parts, crcBits4_xor]

end

/-! ### The nibble table (R111, R112) -/

/-- The table lists what four bit steps make of a nibble. -/
theorem crcTable_getD : ∀ n : BitVec 4, crcTable.getD n.toNat 0 = crcBits4 (n.setWidth 16) := by decide

/-- A word is its upper twelve bits and its low nibble. -/
theorem eq_high_xor_low (x : Word16) : x = ((x >>> 4) <<< 4) ^^^ (x.extractLsb' 0 4).setWidth 16 := by
  ext i hi
  grind

theorem crcBits4_eq_table (x : Word16) : crcBits4 x = (x >>> 4) ^^^ crcTable.getD (x.extractLsb' 0 4).toNat 0 := by
  have small : (x >>> 4).toNat < 2 ^ 12 := by bv_omega
  have high : crcBits4 ((x >>> 4) <<< 4) = x >>> 4 := (crcBits4_eq_iff small).mpr rfl
  calc crcBits4 x
      = crcBits4 (((x >>> 4) <<< 4) ^^^ (x.extractLsb' 0 4).setWidth 16) := by rw [← eq_high_xor_low]
    _ = (x >>> 4) ^^^ crcTable.getD (x.extractLsb' 0 4).toNat 0 := by rw [crcBits4_xor, high, crcTable_getD]

/-- What enters beyond the nibble of a table step stays to enter later. -/
theorem crcBits4_xor_eq_step (c v : Word16) : crcBits4 (c ^^^ v) = crcNibbleStep v c ^^^ (v >>> 4) := by
  rw [crcBits4_eq_table, crcNibbleStep, BitVec.ushiftRight_xor_distrib, BitVec.xor_comm v c]
  ac_rfl

theorem crcNibbleByte_eq (c : Word16) (b : Byte) : crcNibbleByte c b = crcByte c b := by
  have nothingLeft : b.setWidth 16 >>> 4 >>> 4 = (0 : Word16) := by bv_omega
  rw [crcByte, crcBits4_xor_eq_step, crcBits4_xor_eq_step, nothingLeft, crcNibbleByte]
  exact (BitVec.xor_zero).symm

/-- Settles O7: one table step is four bit steps, hence byte by byte the two forms are the same. -/
theorem nibbleCrcEqualsBitCrc : Obligations.NibbleCrcEqualsBitCrc := by
  refine ⟨crcBits4_eq_table, fun seed s => ?_⟩
  rw [crc16Nibble, crc16]
  congr 1
  funext c b
  exact crcNibbleByte_eq c b

/-! ### Zero strings and linearity over strings (R113) -/

theorem crc16_replicate_zero : ∀ n : Nat, crc16 0 (List.replicate n 0) = 0
  | 0 => rfl
  | n + 1 => by
    have zero : crcByte 0 0 = 0 := by decide
    rw [List.replicate_succ, crc16, List.foldl_cons, zero]
    exact crc16_replicate_zero n

theorem crc16_xor : ∀ (s t : List Byte) (c d : Word16), s.length = t.length →
    crc16 (c ^^^ d) (List.zipWith (fun x y => x ^^^ y) s t) = crc16 c s ^^^ crc16 d t
  | [], [], _, _, _ => rfl
  | x :: s, y :: t, c, d, same => by
    have step := crc16_xor s t (crcByte c x) (crcByte d y) (Nat.succ.inj same)
    rw [← crcByte_xor] at step
    exact step
  | [], _ :: _, _, _, same => nomatch same
  | _ :: _, [], _, _, same => nomatch same

/-- Settles O8: a zero byte keeps the CRC 0, `crc16` is a fold, its steps are linear, and the residue is `crc16_withCrc`. -/
theorem crcChainsIsLinearAndLeavesNoResidue : Obligations.CrcChainsIsLinearAndLeavesNoResidue :=
  ⟨crc16_replicate_zero, crc16_append, fun s t same => crc16_xor s t 0 0 same, crc16_withCrc⟩

end Sys2Proof.Proofs.CrcTable

/-! SUPPORT. The comparator inside and outside its windows (43_sequence_arithmetic.md R160 to R162). -/

namespace Sys2Proof.Proofs.Comparator

open Sys2Proof.Machine Sys2Proof.Proofs.Sequence Sys2Proof.Proofs.Actions

section
variable {a b : Byte} {w : Nat}

theorem seqGT_iff : seqGT w a b = true ↔ seqCmp a b w = 1 := beq_iff_eq

theorem seqEQ_iff : seqEQ a b = true ↔ a = b := beq_iff_eq

theorem seqCmp_antisymm (a b : Byte) (w : Nat) : seqCmp a b w = -seqCmp b a w := by
  rcases lt_trichotomy a.toNat b.toNat with lt | eq | gt
  · rw [seqCmp_of_lt lt, seqCmp_of_gt lt]
    split <;> rfl
  · obtain rfl := BitVec.eq_of_toNat_eq eq
    simp
  · rw [seqCmp_of_gt gt, seqCmp_of_lt gt]
    split <;> rfl

/-- The comparator answers 0 for equal numbers only, and else -1 or +1. -/
theorem seqCmp_trichotomy (a b : Byte) (w : Nat) :
    seqCmp a b w = -1 ∧ a ≠ b ∨ seqCmp a b w = 0 ∧ a = b ∨ seqCmp a b w = 1 ∧ a ≠ b := by
  rw [seqCmp_eq]
  split
  next same => simp [same]
  next other => split <;> split <;> simp [other]

/-- Up to `w` steps ahead modulo 256, with `w` up to 127: the modular order (R162). -/
theorem seqCmp_within (small : w ≤ 127) (ahead : 1 ≤ (b - a).toNat) (within : (b - a).toNat ≤ w) :
    seqCmp a b w = -1 := by
  rw [BitVec.toNat_sub] at ahead within
  rcases lt_trichotomy a.toNat b.toNat with lt | eq | gt
  · rw [seqCmp_of_lt lt, if_pos (by omega)]
  · omega
  · rw [seqCmp_of_gt gt, if_neg (by omega)]

/-- Outside both windows: the numeric order inverted (R162). -/
theorem seqCmp_outside (beyond : w < (b - a).toNat) (before : (b - a).toNat < 256 - w) :
    seqCmp a b w = if a.toNat < b.toNat then 1 else -1 := by
  rw [BitVec.toNat_sub] at beyond before
  rcases lt_trichotomy a.toNat b.toNat with lt | eq | gt
  · rw [seqCmp_of_lt lt, if_neg (by omega), if_pos lt]
  · omega
  · rw [seqCmp_of_gt gt, if_neg (by omega), if_neg gt.asymm]

theorem sub_toNat_of_behind (behind : 256 - w ≤ (b - a).toNat) (small : w ≤ 127) :
    1 ≤ (a - b).toNat ∧ (a - b).toNat ≤ w := by
  rw [BitVec.toNat_sub] at *
  omega

end

/-- Settles O10: antisymmetry and the three values case by case; inside a window, behind one and outside both by the distance
modulo 256; and 128 against 0, which numbers of a window of 128 may be. -/
theorem sequenceComparatorProperties : Obligations.SequenceComparatorProperties := by
  refine ⟨fun a b w => ?antisymmetry, fun a b w small => ⟨fun ahead within => ?ahead, fun behind => ?behind⟩,
    fun a b w => seqCmp_outside, by decide, fun w wide => ⟨128, 0, by decide, by simpa using wide, ?fails⟩⟩
  case antisymmetry =>
    have flip := seqCmp_antisymm a b w
    refine ⟨flip, ?_, ?_, ?_⟩
    · rw [Bool.eq_iff_iff, seqLT_iff, seqGT_iff]
      omega
    · rw [Bool.eq_iff_iff, seqLE_iff, seqGE_iff]
      omega
    · simp only [← Bool.not_eq_true, seqLT_iff, seqEQ_iff, seqGT_iff]
      rcases seqCmp_trichotomy a b w with ⟨is, eq⟩ | ⟨is, eq⟩ | ⟨is, eq⟩ <;> simp [is, eq]
  case ahead => exact seqLT_iff.mpr (seqCmp_within small ahead within)
  case behind =>
    obtain ⟨ahead, within⟩ := sub_toNat_of_behind behind small
    rw [seqGT_iff, seqCmp_antisymm, seqCmp_within small ahead within]
    rfl
  case fails =>
    have above : seqCmp 128 0 w = 1 := by
      rw [seqCmp_of_gt (by decide)]
      exact if_pos wide
    rw [← Bool.not_eq_true, seqLT_iff, above]
    decide

end Sys2Proof.Proofs.Comparator

/-! SUPPORT. Host memory as data (20_memory.md R66, R68): reading a run of bytes, and that a canonical memory is determined by
what it reads as. -/

namespace Sys2Proof.Proofs.HostMemory

open Sys2Proof.Machine Sys2Proof.Laws Sys2Proof.Proofs.Actions

theorem memReadBytes_eq_map (m : Memory) : ∀ (n a : Nat),
    memReadBytes m a n = (List.range n).map fun k => memRead m (a + k)
  | 0, _ => rfl
  | n + 1, a => by
    simp only [memReadBytes, memReadBytes_eq_map m n (a + 1), List.range_succ_eq_map, List.map_cons, List.map_map,
      Nat.add_zero]
    congr 2
    funext k
    exact congrArg (memRead m) (Nat.succ_add_eq_add_succ a k)

/-- The byte that is listed first is read at its address, and it is not what an unlisted address reads as. -/
theorem memRead_head {lo x : Nat} {b : Byte} {rest : Memory} (wf : memWfFrom lo ((x, b) :: rest) = true) :
    memRead ((x, b) :: rest) x = b ∧ b ≠ blankByte ∧ memWfFrom (x + 1) rest = true := by
  simp only [memWfFrom, Bool.and_eq_true, bne_iff_ne] at wf
  exact ⟨if_pos rfl, wf.1.2, wf.2⟩

/-- Below the first listed address a canonical memory reads as unlisted. -/
theorem memRead_before {lo x a : Nat} {b : Byte} {rest : Memory} (wf : memWfFrom lo ((x, b) :: rest) = true) (below : a < x) :
    memRead ((x, b) :: rest) a = blankByte := by
  obtain ⟨-, listed, others⟩ := memRead_head wf
  exact memRead_below _ x a (by simp [memWfFrom, listed, others]) below

theorem memory_ext : ∀ (m m' : Memory) (lo lo' : Nat), memWfFrom lo m = true → memWfFrom lo' m' = true →
    (∀ x, memRead m x = memRead m' x) → m = m'
  | [], [], _, _, _, _, _ => rfl
  | [], (y, c) :: rest', _, _, _, wf', same => by
    obtain ⟨read, listed, -⟩ := memRead_head wf'
    exact absurd (read.symm.trans (same y).symm) listed
  | (x, b) :: rest, [], _, _, wf, _, same => by
    obtain ⟨read, listed, -⟩ := memRead_head wf
    exact absurd (read.symm.trans (same x)) listed
  | (x, b) :: rest, (y, c) :: rest', lo, lo', wf, wf', same => by
    obtain ⟨read, listed, others⟩ := memRead_head wf
    obtain ⟨read', listed', others'⟩ := memRead_head wf'
    have first : x = y := by
      rcases Nat.lt_trichotomy x y with lt | eq | gt
      · exact absurd (read.symm.trans ((same x).trans (memRead_before wf' lt))) listed
      · exact eq
      · exact absurd (read'.symm.trans ((same y).symm.trans (memRead_before wf gt))) listed'
    subst first
    have byte : b = c := read.symm.trans ((same x).trans read')
    have rests : rest = rest' := by
      refine memory_ext rest rest' (x + 1) (x + 1) others others' fun a => ?_
      by_cases here : x = a
      · subst here
        rw [memRead_below rest _ x others (Nat.lt_succ_self x), memRead_below rest' _ x others' (Nat.lt_succ_self x)]
      · simpa only [memRead, if_neg here] using same a
    rw [byte, rests]

/-- Settles O55: a write of bytes is read back, the canonical form is kept, and it determines the data. -/
theorem hostMemoryReadsWhatWasWritten : Obligations.HostMemoryReadsWhatWasWritten :=
  ⟨fun _ a x bs wf => memRead_memWriteBytes bs a x wf, fun m a bs wf => memWriteBytes_wf bs m a wf,
    fun m a n => memReadBytes_eq_map m n a, fun m m' wf wf' same => memory_ext m m' 0 0 wf wf' same⟩

end Sys2Proof.Proofs.HostMemory

/-! SUPPORT. Single instructions and steps: the model's choices outside the rules, `host_pickup` and the line level, reset, what a
step does with each stimulus, and ticks in a row. -/

namespace Sys2Proof.Proofs.Steps

open Sys2Proof.Machine Sys2Proof.Laws Sys2Proof.Proofs.Timer Sys2Proof.Proofs.Actions

/-! ### Handles that name no descriptor, and an empty `transmit` (logs 13, 15) -/

section
variable {s : State} {x : QueueArg} {h : Handle}

theorem isHandle_of_outside (outside : s.cfg.window ≤ h) : isHandle s h = false :=
  decide_eq_false (Nat.not_lt.mpr outside)

theorem exec_enqueue_outside (outside : (argHandle x).all (isHandle s) = false) :
    exec (.enqueue x) s = .fault .noDescriptor ∧ exec (.pushFront x) s = .fault .noDescriptor :=
  ⟨if_neg (by simp [outside]), if_neg (by simp [outside])⟩

theorem exec_release_outside (outside : s.cfg.window ≤ h) : exec (.release h) s = .fault .noDescriptor :=
  if_neg (by simp [isHandle_of_outside outside])

theorem exec_txSend_outside {item : TxItem} (owns : item.desc = some h) (outside : s.cfg.window ≤ h) :
    exec (.txSend item) s = .fault .noDescriptor :=
  if_neg (by simp [owns, isHandle_of_outside outside])

/-- A piece that goes on with the state as it is does so while fatal as well (R346). -/
theorem outcome_unlessFatal_go {f : State → Flow} (same : f s = .go s) : (unlessFatal f s).outcome = .next s := by
  unfold unlessFatal
  split
  · rfl
  · rw [same]; rfl

theorem sendNewData_nil (kick : State → Flow) (empty : s.pool.transmit = []) : sendNewData kick s = .go s := by
  simp only [sendNewData, empty]

theorem sendMaintMessage_nil (kick : State → Flow) (empty : s.pool.transmit = []) : sendMaintMessage kick s = .go s := by
  simp only [sendMaintMessage, empty]

end

/-- Settles O17: the guard of each operation that takes a handle, and the two actions that find nothing to send. -/
theorem modelChoicesOutsideTheRules : Obligations.ModelChoicesOutsideTheRules := by
  refine fun s => ⟨fun h outside => ⟨fun q => exec_enqueue_outside ?queue, fun len code => exec_enqueue_outside ?record,
    exec_release_outside outside, fun item owns => exec_txSend_outside owns outside⟩, fun empty => ⟨?data, ?maint⟩⟩
  case queue => exact isHandle_of_outside outside
  case record => exact isHandle_of_outside outside
  case data => exact outcome_unlessFatal_go (sendNewData_nil txKick empty)
  case maint => exact outcome_unlessFatal_go (sendMaintMessage_nil txKick empty)

/-! ### `host_pickup` and `set_line_enabled` (R307, R309) -/

section
variable {s : State} {r : Completion} {rest : List Completion} {h : Handle} {b : Bool}

theorem exec_hostPickup : exec .hostPickup s = .next (hostPickup s) := rfl

theorem hostPickup_nil (empty : s.pool.completion = []) : hostPickup s = { s with env.reply := .pickup none } := by
  simp only [hostPickup, empty]
  rfl

theorem hostPickup_event (cons : s.pool.completion = r :: rest) (event : r.buffer = none) :
    hostPickup s = { s with pool.completion := rest, env.reply := .pickup (some r) } := by
  simp only [hostPickup, cons, event]
  rfl

/-- The buffer of the record is free again, the queue having room (R178). -/
theorem hostPickup_buffer (cons : s.pool.completion = r :: rest) (owns : r.buffer = some h)
    (room : s.pool.free.length ≠ s.cfg.window) : hostPickup s =
      { s with pool := { s.pool with completion := rest, free := s.pool.free ++ [h] }, env.reply := .pickup (some r) } := by
  simp only [hostPickup, cons, owns]
  rw [release_room (s := { s with pool.completion := rest }) h room]
  rfl

theorem exec_setLineEnabled : exec (.setLineEnabled b) s = (setLineEnabled b s).outcome := rfl

theorem setLineEnabled_fatal (fatal : s.latch.fatal = true) : setLineEnabled b s = .go (answer (.flag false) s) := if_pos fatal

theorem setLineEnabled_live (live : s.latch.fatal = false) :
    setLineEnabled b s = .go { s with env.lineEnable := b, env.reply := .flag true } := if_neg (by simp [live])

/-- What `host_pickup` does, the fatal condition or not (R309, R346). -/
theorem exec_hostPickup_cons (cons : s.pool.completion = r :: rest) :
    (r.buffer = none →
      exec .hostPickup s = .next { s with pool.completion := rest, env.reply := .pickup (some r) }) ∧
    (∀ h, r.buffer = some h → s.pool.free.length ≠ s.cfg.window →
      exec .hostPickup s = .next { s with
        pool := { s.pool with completion := rest, free := s.pool.free ++ [h] }, env.reply := .pickup (some r) }) := by
  refine ⟨fun event => ?_, fun h owns room => ?_⟩
  · rw [exec_hostPickup, hostPickup_event cons event]
  · rw [exec_hostPickup, hostPickup_buffer cons owns room]

end

/-- Settles O28: the level with and without the fatal condition, and `host_pickup` by what waits in `completion`. -/
theorem pickupAndLineEnable : Obligations.PickupAndLineEnable := by
  refine fun s => ⟨fun b => ⟨fun fatal => ?fatal, fun live => ?live⟩, fun empty => ?empty, fun r rest => exec_hostPickup_cons⟩
  case fatal => rw [exec_setLineEnabled, setLineEnabled_fatal fatal]; rfl
  case live => rw [exec_setLineEnabled, setLineEnabled_live live]; rfl
  case empty => rw [exec_hostPickup, hostPickup_nil empty]

/-! ### Reset (R57, R370) -/

theorem exec_reset (s : State) : exec .reset s = .next (State.resetWith s.cfg s.env) := rfl

/-- Settles O37: the fields of the reset state, and that the reset state is one of those that `reset` leaves. -/
theorem resetLeavesTheStatedValues : Obligations.ResetLeavesTheStatedValues :=
  ⟨fun s => ⟨State.resetWith s.cfg s.env, exec_reset s, rfl, rfl, List.length_replicate, rfl, rfl, rfl, rfl, rfl, rfl, rfl,
    rfl, rfl, rfl, rfl, rfl, rfl, rfl⟩, exec_reset State.reset⟩

/-! ### One step (R17, R210, R353) -/

section
variable {s : State} {rest : List Stimulus} {bytes : List Byte} {i : Instr}

theorem step_frame (waits : s.env.input = .frame bytes :: rest) (whole : decode bytes = .instr i []) :
    step s = exec i { s with env.input := rest } := by
  simp only [step, fetch, waits, whole]

/-- Bytes that are not exactly one frame: a frame with bytes after it, or none at all. -/
theorem step_raw (waits : s.env.input = .frame bytes :: rest) (other : ∀ i, decode bytes ≠ .instr i []) :
    step s = exec (.onReceive bytes) { s with env.input := rest } := by
  cases read : decode bytes with
  | reject e => simp only [step, fetch, waits, read]; rfl
  | instr i after =>
    cases after with
    | nil => exact absurd read (other i)
    | cons b after => simp only [step, fetch, waits, read]; rfl

theorem step_call (waits : s.env.input = .call i :: rest) (offered : external i = true) (wf : i.wellFormed = true) :
    step s = exec i { s with env.input := rest } := by
  simp only [step, fetch, waits, offered, wf, if_true]

theorem step_call_illFormed (waits : s.env.input = .call i :: rest) (offered : external i = true)
    (wf : i.wellFormed = false) : step s = .refused .illFormed := by
  simp only [step, fetch, waits, offered, wf, if_true, Bool.false_eq_true, if_false]

theorem step_call_notOffered (waits : s.env.input = .call i :: rest) (offered : external i = false) :
    step s = .refused .notOffered := by
  simp only [step, fetch, waits, offered, Bool.false_eq_true, if_false]

theorem step_hostStore {address : Nat} (waits : s.env.input = .hostStore address bytes :: rest) :
    step s = .next { s with env.input := rest, env.mem := memWriteBytes s.env.mem address bytes } := by
  simp only [step, fetch, waits]

theorem step_idle (nothing : s.env.input = []) : step s = .next s := by
  simp only [step, fetch, nothing]

end

/-- Settles O54: one lemma for each stimulus. -/
theorem stepRunsTheDecodedInstruction : Obligations.StepRunsTheDecodedInstruction :=
  fun _ _ => ⟨fun _ _ => step_frame, fun _ => step_raw, fun _ => step_call, fun _ => step_call_illFormed,
    fun _ => step_call_notOffered, fun _ _ => step_hostStore, step_idle⟩

/-! ### Ticks in a row (R202) -/

section
variable {s : State}

/-- The timer counting, `r` ticks left. -/
def counting (r : Nat) (s : State) : State := { s with timer := { running := true, remaining := r } }

/-- The timer as an expiry leaves it (R203). -/
def expired (s : State) : State := { s with timer := { running := false, remaining := 0 } }

theorem ticks_succ_of_next {n : Nat} {t : State} (ticked : exec .tick s = .next t) : ticks (n + 1) s = ticks n t := by
  simp only [ticks, ticked]

theorem ticks_one : ticks 1 s = exec .tick s := by
  simp only [ticks]
  split <;> rename_i ticked <;> rw [ticked]

/-- A tick that finds nothing to send counts down. -/
theorem exec_tick_counting (live : s.latch.fatal = false) (idle : s.tx.inflight ≠ none ∨ s.tx.fifo = []) {r : Nat} :
    exec .tick (counting (r + 2) s) = .next (counting (r + 1) s) := by
  obtain ⟨-, counts, -⟩ := exec_tick_cases (s := counting (r + 2) s) live (exec_txKick_of_idle live idle)
  exact counts rfl (Nat.le_add_left 2 r)

theorem exec_tick_last (live : s.latch.fatal = false) (idle : s.tx.inflight ≠ none ∨ s.tx.fifo = []) :
    exec .tick (counting 1 s) = exec (.dispatch .timerExpired) (expired s) := by
  obtain ⟨-, -, last⟩ := exec_tick_cases (s := counting 1 s) live (exec_txKick_of_idle live idle)
  exact last rfl rfl

theorem ticks_counting (live : s.latch.fatal = false) (idle : s.tx.inflight ≠ none ∨ s.tx.fifo = []) :
    ∀ {k r : Nat}, k < r → ticks k (counting r s) = .next (counting (r - k) s)
  | 0, _, _ => rfl
  | k + 1, r + 2, lt => by
    rw [ticks_succ_of_next (exec_tick_counting live idle), ticks_counting live idle (Nat.lt_of_succ_lt_succ lt),
      Nat.succ_sub_succ]

theorem ticks_expiry (live : s.latch.fatal = false) (idle : s.tx.inflight ≠ none ∨ s.tx.fifo = []) :
    ∀ {r : Nat}, 1 ≤ r → ticks r (counting r s) = exec (.dispatch .timerExpired) (expired s)
  | 1, _ => ticks_one.trans (exec_tick_last live idle)
  | r + 2, _ => by
    rw [ticks_succ_of_next (exec_tick_counting live idle), ticks_expiry live idle (Nat.le_add_left 1 r)]

end

/-- Settles O19: each tick before the last counts down, and the last dispatches the expiry. -/
theorem timerExpiresOnTheConfiguredTick : Obligations.TimerExpiresOnTheConfiguredTick :=
  fun _ live idle positive => ⟨fun _ => ticks_counting live idle, ticks_expiry live idle positive⟩

end Sys2Proof.Proofs.Steps

/-! SUPPORT. The corruption policy on frames sent and received (48_interfaces.md R314, R316, R321 to R323): its choices as a list
that is taken from, a flip as the inversion of the bits at its positions, and what the receive path does with what is heard. -/

namespace Sys2Proof.Proofs.Policy

open Sys2Proof.Machine Sys2Proof.Laws Sys2Proof.Proofs.Timer Sys2Proof.Proofs.Interfaces

/-! ### A flip inverts the bits at its positions (R322; log 22) -/

/-- Bits set one by one: each listed position with the property is inverted once. -/
theorem getLsbD_foldl_invert {p : Nat → Bool} {j : Nat} (small : j < 8) : ∀ {l : List Nat} (m : Byte), l.Nodup →
    (l.foldl (fun m i => if p i then m ^^^ ((1 : Byte) <<< i) else m) m).getLsbD j =
      (m.getLsbD j ^^ (decide (j ∈ l) && p j))
  | [], m, _ => by simp
  | i :: l, m, distinct => by
    obtain ⟨new, others⟩ := List.nodup_cons.mp distinct
    have place : ((1 : Byte) <<< i).getLsbD j = decide (j = i) := by
      have one : (1 : Byte).getLsbD (j - i) = decide (j - i = 0) := by simp
      rw [BitVec.getLsbD_shiftLeft, one, Bool.eq_iff_iff]
      simp only [small, decide_true, Bool.true_and, Bool.and_eq_true, Bool.not_eq_true', decide_eq_true_eq,
        decide_eq_false_iff_not]
      omega
    have one : (if p i then m ^^^ ((1 : Byte) <<< i) else m).getLsbD j = (m.getLsbD j ^^ (decide (j = i) && p i)) := by
      split
      next has => rw [BitVec.getLsbD_xor, place, has, Bool.and_true]
      next hasNot => simp [hasNot]
    rw [List.foldl_cons, getLsbD_foldl_invert small _ others, one]
    by_cases here : j = i
    · subst here; simp [new]
    · simp [here]

theorem getLsbD_flipMask (bits : List Nat) (i : Nat) {j : Nat} (small : j < 8) :
    (flipMask bits i).getLsbD j = decide (8 * i + j ∈ bits) := by
  rw [flipMask, getLsbD_foldl_invert (p := fun j => bits.contains (8 * i + j)) small _ List.nodup_range]
  simp [small]

theorem flipFrom_length (bits : List Nat) : ∀ (i : Nat) (b : List Byte), (flipFrom bits i b).length = b.length
  | _, [] => rfl
  | i, _ :: rest => congrArg Nat.succ (flipFrom_length bits (i + 1) rest)

theorem getLsbD_flipFrom (bits : List Nat) {j : Nat} (small : j < 8) : ∀ (i n : Nat) (b : List Byte), n < b.length →
    ((flipFrom bits i b).getD n 0).getLsbD j = ((b.getD n 0).getLsbD j ^^ decide (8 * (i + n) + j ∈ bits))
  | i, 0, x :: rest, _ => by simp [flipFrom, getLsbD_flipMask bits i small]
  | i, n + 1, x :: rest, lt => by
    have next : i + 1 + n = i + (n + 1) := by omega
    simpa only [flipFrom, List.getD_cons_succ, next] using
      getLsbD_flipFrom bits small (i + 1) n rest (Nat.lt_of_succ_lt_succ lt)

/-- The copy of a frame that a flip makes. -/
def flipped (bits : List Nat) (b : List Byte) : List Byte := flipFrom bits 0 b

theorem flipped_length (bits : List Nat) (b : List Byte) : (flipped bits b).length = b.length := flipFrom_length bits 0 b

theorem getLsbD_flipped (bits : List Nat) (b : List Byte) (i j : Nat) (inside : i < b.length) (small : j < 8) :
    ((flipped bits b).getD i 0).getLsbD j = ((b.getD i 0).getLsbD j ^^ decide (8 * i + j ∈ bits)) := by
  rw [flipped, getLsbD_flipFrom bits small 0 i b inside, Nat.zero_add]

/-! ### The choice of the policy, and the answer of the transport -/

section
variable {s : State} {b : List Byte} {d : Draw} {ds : List Draw} {a : SendAnswer} {as : List SendAnswer}

theorem corruptionChoice_off (off : s.cfg.corruptPermille = 0) : corruptionChoice s = (.pass, s) := if_pos off

theorem corruptionChoice_listed (on : s.cfg.corruptPermille ≠ 0) (listed : s.env.draws = d :: ds) :
    corruptionChoice s = (d, { s with env.draws := ds }) := by
  simp only [corruptionChoice, if_neg on, listed]

/-- A choice that is not listed is the next free value, as if that stood on the list (log 10). -/
theorem corruptionChoice_free (on : s.cfg.corruptPermille ≠ 0) (empty : s.env.draws = []) :
    corruptionChoice s = corruptionChoice
      { s with env.draws := [Config.freeDraw s.env.freeCount], env.freeCount := s.env.freeCount + 1 } := by
  simp only [corruptionChoice, if_neg on, empty]

theorem transportSend_listed (listed : s.env.answers = a :: as) : transportSend b s =
    (a, { s with env.answers := as, env.wire := s.env.wire ++ (if a = .refused then [] else [b]) }) := by
  simp only [transportSend, transportAnswer, listed]
  split <;> simp

theorem transportSend_free (empty : s.env.answers = []) : transportSend b s =
    (silently (Config.freeAnswer s.env.freeCount), { s with
      env.freeCount := s.env.freeCount + 1
      env.wire := s.env.wire ++
        (if silently (Config.freeAnswer s.env.freeCount) = .refused then [] else [b]) }) := by
  simp only [transportSend, transportAnswer, empty]
  split <;> simp

theorem exec_transportSend : exec (.transportSend b) s =
    .next (answer (.flag (decide ((transportSend b s).1 ≠ .refused))) (transportSend b s).2) := rfl

theorem offerFrame_off (off : s.cfg.corruptPermille = 0) : offerFrame b s = transportSend b s := by
  simp only [offerFrame, corruptionChoice_off off]

theorem offerFrame_pass (on : s.cfg.corruptPermille ≠ 0) (listed : s.env.draws = .pass :: ds) :
    offerFrame b s = transportSend b { s with env.draws := ds } := by
  simp only [offerFrame, corruptionChoice_listed on listed]

theorem offerFrame_drop (on : s.cfg.corruptPermille ≠ 0) (listed : s.env.draws = .drop :: ds) :
    offerFrame b s = (.acceptedNow, { s with env.draws := ds }) := by
  simp only [offerFrame, corruptionChoice_listed on listed]

theorem offerFrame_flip {bits : List Nat} (on : s.cfg.corruptPermille ≠ 0) (listed : s.env.draws = .flip bits :: ds) :
    offerFrame b s = transportSend (flipped bits b) { s with env.draws := ds } := by
  simp only [offerFrame, corruptionChoice_listed on listed]
  rfl

theorem offerFrame_free (on : s.cfg.corruptPermille ≠ 0) (empty : s.env.draws = []) :
    offerFrame b s = offerFrame b
      { s with env.draws := [Config.freeDraw s.env.freeCount], env.freeCount := s.env.freeCount + 1 } := by
  simp only [offerFrame, corruptionChoice_free on empty]

end

/-- Settles O34: the choice of the policy, then the transport's answer, listed or free. -/
theorem transportAndCorruptionPolicy : Obligations.TransportAndCorruptionPolicy := by
  intro s b
  refine ⟨fun a as listed => ⟨?sent, fun off => ?off, fun ds on passes => ?pass⟩,
    fun empty => ⟨?sentFree, fun off => ?offFree, fun ds on passes => ?passFree⟩,
    fun on empty => offerFrame_free on empty, fun ds on drops => offerFrame_drop on drops,
    fun bits ds a as on flips listed => ⟨flipped bits b, flipped_length bits b, getLsbD_flipped bits b, ?flip⟩⟩
  case sent => rw [exec_transportSend, transportSend_listed listed]; rfl
  case off => rw [offerFrame_off off, transportSend_listed listed]
  case pass => rw [offerFrame_pass on passes, transportSend_listed (s := { s with env.draws := ds }) listed]
  case sentFree => rw [exec_transportSend, transportSend_free empty]; rfl
  case offFree => rw [offerFrame_off off, transportSend_free empty]
  case passFree => rw [offerFrame_pass on passes, transportSend_free (s := { s with env.draws := ds }) empty]
  case flip => rw [offerFrame_flip on flips, transportSend_listed (s := { s with env.draws := ds }) listed]

/-! ### What is heard, and what the receive path does with it (R148, R316, R323) -/

section
variable {s s1 : State} {b : List Byte} {ds : List Draw} {rx : RxPkt}

theorem exec_onReceive (b : List Byte) (s : State) : exec (.onReceive b) s = (onReceive b s).outcome := rfl

theorem heard_pass (on : s.cfg.corruptPermille ≠ 0) (listed : s.env.draws = .pass :: ds) :
    heard b s = (received b, { s with env.draws := ds }) := by
  simp only [heard, corruptionChoice_listed on listed]

theorem heard_drop (on : s.cfg.corruptPermille ≠ 0) (listed : s.env.draws = .drop :: ds) :
    heard b s = (none, { s with env.draws := ds }) := by
  simp only [heard, corruptionChoice_listed on listed]

theorem heard_flip {bits : List Nat} (on : s.cfg.corruptPermille ≠ 0) (listed : s.env.draws = .flip bits :: ds) :
    heard b s = heard (flipped bits b) { s with env.draws := .pass :: ds } := by
  rw [heard_pass (s := { s with env.draws := .pass :: ds }) on rfl]
  simp only [heard, corruptionChoice_listed on listed]
  rfl

theorem heard_free (on : s.cfg.corruptPermille ≠ 0) (empty : s.env.draws = []) : heard b s = heard b
    { s with env.draws := [Config.freeDraw s.env.freeCount], env.freeCount := s.env.freeCount + 1 } := by
  simp only [heard, corruptionChoice_free on empty]

/-- On a link that is not fatal, receiving is decided by what is heard. -/
theorem onReceive_some (live : s.latch.fatal = false) (hears : heard b s = (some rx, s1)) :
    onReceive b s = dispatch .packetReceived { s1 with tx.rxPkt := some rx } := by
  simp only [onReceive, live, hears, Bool.false_eq_true, if_false]

theorem onReceive_none (live : s.latch.fatal = false) (hears : heard b s = (none, s1)) : onReceive b s = .go s1 := by
  simp only [onReceive, live, hears, Bool.false_eq_true, if_false]

theorem onReceive_congr {b' : List Byte} {s' : State} (live : s.latch.fatal = false) (live' : s'.latch.fatal = false)
    (same : heard b s = heard b' s') : onReceive b s = onReceive b' s' := by
  simp only [onReceive, live, live', same, Bool.false_eq_true, if_false]

theorem exec_onReceive_some (live : s.latch.fatal = false) (hears : heard b s = (some rx, s1)) :
    exec (.onReceive b) s = exec (.dispatch .packetReceived) { s1 with tx.rxPkt := some rx } := by
  rw [exec_onReceive, onReceive_some live hears, exec_dispatch]

theorem heard_passed (passes : (s.cfg.corruptPermille = 0 ∧ s1 = s) ∨
    (s.cfg.corruptPermille ≠ 0 ∧ ∃ ds, s.env.draws = .pass :: ds ∧ s1 = { s with env.draws := ds })) :
    heard b s = (received b, s1) := by
  rcases passes with ⟨off, rfl⟩ | ⟨on, ds, listed, rfl⟩
  · exact heard_off b off
  · exact heard_pass on listed

end

/-! ### The table of R148 -/

section
variable {b : List Byte} {p : Packet}

/-- A result of `parse` that comes from the eight header bytes. -/
theorem head?_eq_getD (long : parse b ≠ .messageError .tooShort) : b.head? = some (b.getD 0 0) := by
  cases b with
  | nil => exact absurd rfl long
  | cons x rest => rfl

theorem received_packet (parsed : parse b = .packet p) : received b = some (.packet p) := by
  simp only [received, parsed]

theorem received_headerCRC (parsed : parse b = .messageError .headerCRC) :
    received b = if b.getD 0 0 = 0x81 ∨ b.getD 0 0 = 0x05 then some (.error 1) else none := by
  have head := head?_eq_getD (b := b) (by simp [parsed])
  simp only [received, parsed, head, Option.some_inj]
  rfl

theorem received_dataCRC (parsed : parse b = .messageError .dataCRC) :
    received b = if b.getD 0 0 = 0x81 then some (.error 2) else none := by
  have head := head?_eq_getD (b := b) (by simp [parsed])
  simp only [received, parsed, head, Option.some_inj]
  rfl

theorem received_none (parsed : parse b = .messageError .tooShort ∨ parse b = .messageError .badType ∨
    parse b = .messageError .badSubtype ∨ (parse b = .messageError .headerCRC ∧ b.getD 0 0 = 0x90) ∨
      (parse b = .messageError .dataCRC ∧ b.getD 0 0 = 0x90)) : received b = none := by
  rcases parsed with parsed | parsed | parsed | ⟨parsed, dle⟩ | ⟨parsed, dle⟩
  · simp only [received, parsed]
  · simp only [received, parsed]
  · simp only [received, parsed]
  · rw [received_headerCRC parsed, dle, if_neg (by decide)]
  · rw [received_dataCRC parsed, dle, if_neg (by decide)]

/-- A wrong header CRC is found in frames of the three types only (R143, R144). -/
theorem type_of_headerCRC (parsed : parse b = .messageError .headerCRC) :
    b.getD 0 0 = 0x81 ∨ b.getD 0 0 = 0x05 ∨ b.getD 0 0 = 0x90 := by
  unfold parse at parsed
  split at parsed
  next b0 _ _ _ _ _ _ _ _ =>
    split at parsed
    next => cases parsed
    next listed =>
      simp only [List.getD_cons_zero]
      simp only [typeSOH, typeENQ, typeDLE] at listed
      tauto
  next => cases parsed

/-- A wrong data CRC is found in frames with a payload only (R146). -/
theorem type_of_dataCRC (parsed : parse b = .messageError .dataCRC) : b.getD 0 0 = 0x81 ∨ b.getD 0 0 = 0x90 := by
  unfold parse at parsed
  split at parsed
  next b0 _ _ _ _ _ _ _ _ =>
    split at parsed
    next => cases parsed
    next listed =>
      split at parsed
      next => cases parsed
      next =>
        split at parsed
        next => unfold parseControl at parsed; split at parsed <;> cases parsed
        next control =>
          simp only [List.getD_cons_zero]
          simp only [typeSOH, typeENQ, typeDLE] at listed control
          tauto
  next => cases parsed

end

/-! ### Packets and errors that a state ignores (R219, R289) -/

section
variable {s : State} {p : Packet} {reason : BitVec 6}

/-- In Halt nothing is for a packet but a maintenance message. -/
theorem dispatch_packet_halt (ready : Ready s) (halt : s.link.state = .halt) (holds : s.tx.rxPkt = some (.packet p))
    (other : p.cls ≠ .maint) : dispatch .packetReceived s = .go s := by
  refine dispatch_drops ready _ ?_
  simp [ruleTable, Rule.applies, dr00, dr01, dr02, dr03, dr04, dr05, dr06, dr07, dr08, dr09, dr10, dr11, dr12, dr13, dr14,
    dr15, dr16, dr17, dr18, dr19, dr20, dr21, dr22, dr23, dr24, dr25, dr26, dr27, dr28, halt, isEvent, receives, packetHas,
    scanPacket, holds, other]

/-- Outside Run no entry but those of a quiescent link could be for an error. -/
theorem dispatch_error_ignored (ready : Ready s) (quiescent : Quiescent s) (notRun : s.link.state ≠ .run)
    (holds : s.tx.rxPkt = some (.error reason)) : dispatch .packetReceived s = .go s := by
  refine dispatch_drops ready _ fun r mem => ?_
  obtain ⟨idle, timer, line⟩ := quiescent_iff_entries.mp quiescent
  have scanned : scanPacket (some .packetReceived) s = some (.error reason) := by simp [scanPacket, holds]
  have quiet : ∀ r ∈ eventEntries kickInDispatch, r.applies (some .packetReceived) (some (.error reason)) s = false := by
    simp [eventEntries, Rule.applies, dr00, dr01, dr02, dr03, dr04, dr06, dr07, dr08, dr10, dr11, dr12, dr14, dr15, dr16,
      dr17, dr18, dr19, dr20, dr21, dr22, isEvent, receives, packetHas, receiveMessageError, Ne.symm notRun]
  rw [scanned]
  rcases mem_ruleTable_iff.mp mem with sends | rfl | rfl | rfl | event
  · rw [idleEntries_applies sends, idle r sends]
  · exact timer
  · exact line
  · rw [← Bool.not_eq_true, dr23_applies]
    exact fun fires => notRun fires.1
  · exact quiet r event

/-- An error taken into `rx_pkt` and ignored. -/
theorem exec_onReceive_error_ignored {b : List Byte} (ready : Ready s) (quiescent : Quiescent s) (notRun : s.link.state ≠ .run)
    (off : s.cfg.corruptPermille = 0) (hears : received b = some (.error reason)) :
    exec (.onReceive b) s = .next { s with tx.rxPkt := some (.error reason) } := by
  have kept : Quiescent { s with tx.rxPkt := some (.error reason) } := by
    simpa only [quiescent_iff, xmitIdle, tBehindNextNew, tIsNextNew, ackWaitNotFull] using quiescent
  rw [exec_onReceive, onReceive_some ready.2 (by rw [heard_off b off, hears]),
    dispatch_error_ignored (s := { s with tx.rxPkt := some (.error reason) }) ready kept notRun rfl]
  rfl

/-- Receiving a frame as an instruction is receiving its bytes (R316). -/
theorem exec_of_encode {i : Instr} {b : List Byte} (encoded : encode i = some b) : exec i s = exec (.onReceive b) s := by
  cases i
  case data | maint | ack | nak | rep | strt | stack => cases encoded; rfl
  all_goals cases encoded

end

/-- Settles O35: what is heard, by the policy's choice and the table; and the dispatches that find nothing for it. -/
theorem receptionFollowsTheParseTable : Obligations.ReceptionFollowsTheParseTable := by
  refine ⟨fun bs s s1 live passes => ?table, fun bs s bits ds live on flips =>
    ⟨flipped bits bs, flipped_length bits bs, getLsbD_flipped bits bs, ?flip⟩, fun bs s live on empty => ?free,
    fun bs s ready => ⟨fun off halt p parsed other => ?halt, fun off notRun quiescent => ?errors, fun ds on drops => ?drop⟩,
    fun i b s => exec_of_encode⟩
  case table =>
    intro b0 posts
    have hears := heard_passed (b := bs) passes
    have posted : ∀ rx, received bs = some rx → posts rx := fun rx is =>
      exec_onReceive_some live (by rw [hears, is])
    refine ⟨fun p parsed => posted _ (received_packet parsed), fun parsed type => posted _ ?_,
      fun parsed type => posted _ ?_, fun discarded => ?_⟩
    · rw [received_headerCRC parsed, if_pos type]
    · rw [received_dataCRC parsed, if_pos type]
    · rw [exec_onReceive, onReceive_none live (by rw [hears, received_none discarded])]
      rfl
  case flip =>
    rw [exec_onReceive, exec_onReceive,
      onReceive_congr (s' := { s with env.draws := .pass :: ds }) live live (heard_flip on flips)]
  case free =>
    rw [exec_onReceive, exec_onReceive, onReceive_congr live (by exact live) (heard_free on empty)]
  case halt =>
    rw [exec_onReceive, onReceive_some ready.2 (by rw [heard_off bs off, received_packet parsed]),
      dispatch_packet_halt (s := { s with tx.rxPkt := some (.packet p) }) ready halt rfl other]
    rfl
  case errors =>
    refine ⟨fun parsed notDle => ?_, fun parsed notDle => ?_⟩
    · have type := (type_of_headerCRC parsed).imp_right (Or.resolve_right · notDle)
      exact exec_onReceive_error_ignored ready quiescent notRun off (by rw [received_headerCRC parsed, if_pos type])
    · have type := (type_of_dataCRC parsed).resolve_right notDle
      exact exec_onReceive_error_ignored ready quiescent notRun off (by rw [received_dataCRC parsed, if_pos type])
  case drop =>
    rw [exec_onReceive, onReceive_none ready.2 (heard_drop on drops)]
    rfl

end Sys2Proof.Proofs.Policy

/-! SUPPORT. The operations on queues and descriptors write the pool and nothing else (44_queues.md). -/

namespace Sys2Proof.Proofs.PoolWrites

open Sys2Proof.Machine Sys2Proof.Proofs.Steps

/-- Nothing but the pool differs. -/
def PoolOnly (s t : State) : Prop := ∃ p, t = { s with pool := p }

section
variable {s t u : State}

theorem PoolOnly.refl (s : State) : PoolOnly s s := ⟨s.pool, rfl⟩

theorem PoolOnly.trans (h : PoolOnly s t) (g : PoolOnly t u) : PoolOnly s u := by
  obtain ⟨p, rfl⟩ := h
  obtain ⟨q, rfl⟩ := g
  exact ⟨q, rfl⟩

theorem poolOnly_foldl {α : Type} {f : State → α → State} (hf : ∀ s x, PoolOnly s (f s x)) :
    ∀ (l : List α) (s : State), PoolOnly s (l.foldl f s)
  | [], s => .refl s
  | x :: l, s => (hf s x).trans (poolOnly_foldl hf l (f s x))

end

section
variable (s : State) (h : Handle)

theorem poolOnly_enqueue (x : QueueArg) : PoolOnly s (enqueue x s).2 := by
  cases x <;> exact ⟨_, rfl⟩

theorem poolOnly_pushFront (x : QueueArg) : PoolOnly s (pushFront x s).2 := by
  cases x <;> exact ⟨_, rfl⟩

theorem poolOnly_setDesc (f : Descriptor → Descriptor) : PoolOnly s (setDesc h f s) := ⟨_, rfl⟩

theorem poolOnly_release : PoolOnly s (release h s) := poolOnly_enqueue s _

theorem poolOnly_complete (len : BitVec 14) (code : EventCode) : PoolOnly s (complete h len code s) :=
  (poolOnly_setDesc s h _).trans (poolOnly_enqueue _ _)

theorem poolOnly_notify (code : EventCode) : PoolOnly s (notify code s) := by
  unfold notify
  split
  · exact .refl s
  · exact poolOnly_enqueue s _

theorem poolOnly_requeueOne : PoolOnly s (requeueOne s h) := (poolOnly_setDesc s h _).trans (poolOnly_pushFront _ _)

theorem poolOnly_requeueAckWait : PoolOnly s (requeueAckWait s) :=
  PoolOnly.trans ⟨_, rfl⟩ (poolOnly_foldl poolOnly_requeueOne _ _)

theorem poolOnly_killAll (code : EventCode) (l : List Handle) : PoolOnly s (killAll code l s) :=
  poolOnly_foldl (fun s h => poolOnly_complete s h 0 code) l s

theorem poolOnly_alloc {k : BufferKind} {t : State} {h : Handle} (got : alloc k s = some (h, t)) : PoolOnly s t := by
  cases cons : s.pool.free with
  | nil => cases (alloc_nil k cons).symm.trans got
  | cons h rest =>
    cases (alloc_cons k cons).symm.trans got
    exact ⟨_, rfl⟩

theorem poolOnly_completeLoop (resp : Byte) : ∀ (n : Nat) (s : State), PoolOnly s (completeLoop resp n s)
  | 0, s => .refl s
  | n + 1, s => by
    simp only [completeLoop]
    split
    next => exact .refl s
    next h rest _ =>
      split
      next =>
        have taken : PoolOnly s { s with pool.ackWait := rest } := ⟨_, rfl⟩
        exact (taken.trans (poolOnly_complete _ h _ _)).trans (poolOnly_completeLoop resp n _)
      next => exact .refl s

/-- A delivery writes the host's buffer too (R244, R255). -/
theorem deliver_eq (rest : List Handle) (pkt : Packet) (code : EventCode) : ∃ p, deliver h rest pkt code s =
    { s with pool := p, env.mem := memWriteBytes s.env.mem (descOf s h).address pkt.payload } := by
  obtain ⟨p, done⟩ := poolOnly_complete
    { s with pool.receive := rest, env.mem := memWriteBytes s.env.mem (descOf s h).address pkt.payload } h pkt.count code
  exact ⟨p, done⟩

/-- `host_pickup` answers (R309). -/
theorem hostPickup_eq : ∃ p r, hostPickup s = answer r { s with pool := p } := by
  cases cons : s.pool.completion with
  | nil => exact ⟨s.pool, _, hostPickup_nil cons⟩
  | cons r rest =>
    cases owns : r.buffer with
    | none => exact ⟨{ s.pool with completion := rest }, .pickup (some r), hostPickup_event cons owns⟩
    | some h =>
      obtain ⟨p, released⟩ := poolOnly_release { s with pool.completion := rest } h
      refine ⟨p, .pickup (some r), ?_⟩
      simp only [hostPickup, cons, owns, released]

end

end Sys2Proof.Proofs.PoolWrites

/-! SUPPORT. What a fatal link does with each instruction (60_exceptions.md R346; logs 18, 19). -/

namespace Sys2Proof.Proofs.WhileFatal

open Sys2Proof.Machine Sys2Proof.Laws Sys2Proof.Proofs.Timer Sys2Proof.Proofs.Dispatch Sys2Proof.Proofs.FatalLatch
  Sys2Proof.Proofs.Actions Sys2Proof.Proofs.Interfaces Sys2Proof.Proofs.PoolWrites Sys2Proof.Proofs.Steps
  Sys2Proof.Proofs.Policy

/-! ### What stays as it is (R346) -/

/-- What is staged, in flight or received stays, and the link stays fatal and, where it is, halted. -/
def Frozen (s t : State) : Prop :=
  t.tx = s.tx ∧ t.latch.fatal = true ∧ (s.link.state = .halt → t.link.state = .halt)

/-- An instruction that answers leaves the link frozen. -/
def Freezes (s : State) : Host.Outcome State Fault Refusal → Prop
  | .next t => Frozen s t
  | .fault _ => True
  | .refused _ => True

theorem Frozen.answer {s t : State} (frozen : Frozen s t) (r : Reply) : Frozen s (answer r t) := frozen

theorem frozen_raiseFatal (c : FatalCause) (s : State) : Frozen s (raiseFatal c s) := by
  obtain ⟨raised, link, -, -, -, -, tx⟩ := raiseFatal_halts c s
  exact ⟨tx, raised, fun _ => by rw [link]⟩

section
variable {s t : State} (fatal : s.latch.fatal = true)
include fatal

theorem Frozen.refl : Frozen s s := ⟨rfl, fatal, id⟩

theorem frozen_poolOnly (only : PoolOnly s t) : Frozen s t := by
  obtain ⟨p, rfl⟩ := only
  exact .refl fatal

theorem frozen_giveBufferToUser (p : Packet) : Frozen s (giveBufferToUser p s) := by
  unfold giveBufferToUser
  split
  · exact .refl fatal
  next h rest _ =>
    split
    · exact .refl fatal
    · obtain ⟨_, done⟩ := deliver_eq s h rest p .rxBufferComplete
      rw [done]
      exact .refl fatal

theorem frozen_deliverMaintToHost (p : Packet) : Frozen s (deliverMaintToHost p s) := by
  unfold deliverMaintToHost
  split
  · exact .refl fatal
  next h rest _ =>
    split
    · exact .refl fatal
    · obtain ⟨_, done⟩ := deliver_eq s h rest p .maintBufferComplete
      rw [done]
      exact .refl fatal

theorem frozen_hostPickup : Frozen s (hostPickup s) := by
  obtain ⟨p, r, picked⟩ := hostPickup_eq s
  rw [picked]
  exact .refl fatal

theorem frozen_completeAcked (resp : Byte) : Frozen s (completeAcked resp s) := by
  obtain ⟨p, done⟩ := poolOnly_completeLoop resp s.pool.ackWait.length s
  rw [completeAcked, done]
  exact .refl fatal

/-! ### Instructions with a guard -/

theorem unlessFatal_fatal (f : State → Flow) : unlessFatal f s = .go s := if_pos fatal

theorem onReceive_fatal (b : List Byte) : onReceive b s = .go s := if_pos fatal

/-- An entry fires nothing (R215). -/
theorem tryRule_fatal (r : Rule) : tryRule r s = .go (answer (.flag false) s) := by
  simp only [tryRule, fatal, Bool.not_true, Bool.false_and, Bool.false_eq_true, if_false]

theorem freezes_unlessFatal (f : State → Flow) : Freezes s (unlessFatal f s).outcome := by
  rw [unlessFatal_fatal fatal f]
  exact .refl fatal

theorem freezes_onReceive (b : List Byte) : Freezes s (onReceive b s).outcome := by
  rw [onReceive_fatal fatal b]
  exact .refl fatal

theorem freezes_tryRule (r : Rule) : Freezes s (tryRule r s).outcome := by
  rw [tryRule_fatal fatal r]
  exact .refl fatal

/-! ### The host's requests (R300, R346) -/

theorem userRequest_fatal (e : EventKind) : userRequest e s = .go (answer (.flag false) s) := if_pos fatal

theorem killReceiveBuffers_fatal (b : Bool) : killReceiveBuffers b s = .go (answer (.flag false) s) := if_pos fatal

theorem killTransmitBuffers_fatal (b : Bool) : killTransmitBuffers b s = .go (answer (.flag false) s) := if_pos fatal

theorem assignReceiveBuffer_fatal (address length : Nat) : assignReceiveBuffer address length s = .go (answer .refused s) :=
  if_pos (by simp [fatal])

theorem enqueueTransmitBuffer_fatal (address length : Nat) (eom : Bool) :
    enqueueTransmitBuffer address length eom s = .go (answer .refused s) := if_pos (by simp [fatal])

/-- A flow that goes on with the state as it is, but for the answer. -/
theorem freezes_answered {f : Flow} {r : Reply} (answered : f = .go (answer r s)) : Freezes s f.outcome := by
  rw [answered]
  exact .refl fatal

theorem freezes_same {f : Flow} (same : f = .go s) : Freezes s f.outcome := by
  rw [same]
  exact .refl fatal

/-! ### Every instruction -/

theorem freezes_enqueue (x : QueueArg) : Freezes s (exec (.enqueue x) s) := by
  cases valid : (argHandle x).all (isHandle s) with
  | true =>
    rw [Queues.exec_enqueue s valid]
    exact (frozen_poolOnly fatal (poolOnly_enqueue s x)).answer _
  | false =>
    rw [(exec_enqueue_outside valid).1]
    trivial

theorem freezes_pushFront (x : QueueArg) : Freezes s (exec (.pushFront x) s) := by
  cases valid : (argHandle x).all (isHandle s) with
  | true =>
    rw [Queues.exec_pushFront s valid]
    exact (frozen_poolOnly fatal (poolOnly_pushFront s x)).answer _
  | false =>
    rw [(exec_enqueue_outside valid).2]
    trivial

theorem freezes_release (h : Handle) : Freezes s (exec (.release h) s) := by
  rcases Nat.lt_or_ge h s.cfg.window with valid | outside
  · rw [Queues.exec_release s valid]
    exact frozen_poolOnly fatal (poolOnly_release s h)
  · rw [exec_release_outside outside]
    trivial

theorem freezes_alloc (k : BufferKind) : Freezes s (exec (.alloc k) s) := by
  cases got : alloc k s with
  | none =>
    rw [Queues.exec_alloc_of_none s got]
    exact frozen_raiseFatal _ (answer .none s)
  | some taken =>
    rw [Queues.exec_alloc_of_some s got]
    exact (frozen_poolOnly fatal (poolOnly_alloc s got)).answer _

theorem freezes_transportSend (b : List Byte) : Freezes s (exec (.transportSend b) s) := by
  rw [exec_transportSend, transportSend_update b (s := s) (t := s) rfl]
  exact .refl fatal

theorem freezes_txSend (item : TxItem) : Freezes s (exec (.txSend item) s) := by
  change Freezes s (if item.desc.all (isHandle s) = true then _ else _)
  split
  · exact freezes_unlessFatal fatal _
  · trivial

theorem freezes_inc (f : IncForm) : Freezes s (exec (.inc f) s) := by
  cases f <;> exact .refl fatal

theorem freezes_exec {i : Instr} (other : i ≠ .reset) : Freezes s (exec i s) := by
  cases i
  case reset => exact absurd rfl other
  case data | maint | ack | nak | rep | strt | stack | onReceive => exact freezes_onReceive fatal _
  case crc16 | header | trailer | buildData | buildAck | buildNak | buildRep | buildStart | buildStartAck |
      buildMaintenance | parse | seqCmp | head | count | findSeq | dequeue | drDefault => exact .refl fatal
  case setSACK | setSNAK | clearSNAK | setSREP | clearSREP | clearSACK | setSNAKFromError | setTToAplus1 | setXToSentNum |
      clearStartReceived | startTimer | stopTimer => exact .refl fatal
  case bumpT => rw [exec_bumpT, Rules.bumpT_closed]; exact .refl fatal
  case stopTimerIfAGeX => rw [exec_stopTimerIfAGeX, Rules.stopTimerIfAGeX_closed]; exact .refl fatal
  case startOrStopTimerByAX => rw [exec_startOrStopTimerByAX, Rules.startOrStopTimerByAX_closed]; exact .refl fatal
  case inc f => exact freezes_inc fatal f
  case enqueue x => exact freezes_enqueue fatal x
  case pushFront x => exact freezes_pushFront fatal x
  case release h => exact freezes_release fatal h
  case alloc k => exact freezes_alloc fatal k
  case requeueAckWait => exact frozen_poolOnly fatal (poolOnly_requeueAckWait s)
  case notify | notifyDisconnect | notifyMaintReceived => exact frozen_poolOnly fatal (poolOnly_notify s _)
  case notifyStartReceived =>
    exact frozen_poolOnly (s := { s with latch.startRcvd := true }) fatal (poolOnly_notify _ _)
  case completeAcked p => exact frozen_completeAcked fatal p.resp
  case giveBufferToUser p => exact frozen_giveBufferToUser fatal p
  case deliverMaintToHost p => exact frozen_deliverMaintToHost fatal p
  case hostPickup => exact frozen_hostPickup fatal
  case transportSend b => exact freezes_transportSend fatal b
  case txSend item => exact freezes_txSend fatal item
  case txKick | transmitComplete | sendControl | sendStrt | sendStack | sendAck | sendNak | sendRep | sendNewData |
      retransmitT | sendMaintMessage | nakMissing | resetVariables => exact freezes_unlessFatal fatal _
  case tick => exact freezes_same fatal (tick_of_fatal fatal)
  case onTransmitComplete | onLineStatusChange => exact freezes_same fatal (if_pos fatal)
  case dispatch e => exact freezes_same fatal (dispatch_of_fatal fatal e)
  case assignReceiveBuffer => exact freezes_answered fatal (assignReceiveBuffer_fatal fatal _ _)
  case enqueueTransmitBuffer => exact freezes_answered fatal (enqueueTransmitBuffer_fatal fatal _ _ _)
  case killReceiveBuffers => exact freezes_answered fatal (killReceiveBuffers_fatal fatal _)
  case killTransmitBuffers => exact freezes_answered fatal (killTransmitBuffers_fatal fatal _)
  case setLineEnabled => exact freezes_answered fatal (setLineEnabled_fatal fatal)
  case userStartup | userHalt | userMaintenance => exact freezes_answered fatal (userRequest_fatal fatal _)
  all_goals exact freezes_tryRule fatal _

end

/-- Settles O38: the guard of each operation, and what stays under every instruction but `reset`. -/
theorem fatalRefusesEverythingButPickup : Obligations.FatalRefusesEverythingButPickup := by
  intro s fatal
  have ignored : ∀ f, (unlessFatal f s).outcome = .next s := fun f => congrArg Flow.outcome (unlessFatal_fatal fatal f)
  have unheard : ∀ b, exec (.onReceive b) s = .next s := fun b => congrArg Flow.outcome (onReceive_fatal fatal b)
  have refused : ∀ {f : Flow} {r : Reply}, f = .go (answer r s) → f.outcome = .next { s with env.reply := r } :=
    fun same => congrArg Flow.outcome same
  refine ⟨fun i b encoded => (exec_of_encode encoded).trans (unheard b), fun i t other answered => ?frozen, ?idle,
    fun _ => ignored _, fun _ => ignored _, unheard, fun _ => congrArg Flow.outcome (if_pos fatal),
    fun e => congrArg Flow.outcome (dispatch_of_fatal fatal e), fun item valid => ?staged, ?users, fun address length eom => ?buffers,
    fun b => ?kills, fun empty => ?empty, fun r rest => exec_hostPickup_cons⟩
  case frozen =>
    have freezes := freezes_exec fatal other
    rw [answered] at freezes
    exact freezes
  case idle =>
    have tick : exec .tick s = .next s := congrArg Flow.outcome (tick_of_fatal fatal)
    have report : exec .onTransmitComplete s = .next s := congrArg Flow.outcome (if_pos fatal)
    simp only [List.forall_mem_cons, List.not_mem_nil, false_imp_iff, implies_true, and_true]
    exact ⟨tick, ignored _, ignored _, report, ignored _, ignored _, ignored _, ignored _, ignored _, ignored _, ignored _,
      ignored _, ignored _⟩
  case staged =>
    have listed : item.desc.all (isHandle s) = true :=
      (Option.all_eq_true ..).mpr fun h mem => decide_eq_true (valid h mem)
    exact (if_pos listed).trans (ignored _)
  case users =>
    simp only [List.forall_mem_cons, List.not_mem_nil, false_imp_iff, implies_true, and_true]
    exact ⟨refused (userRequest_fatal fatal _), refused (userRequest_fatal fatal _), refused (userRequest_fatal fatal _)⟩
  case buffers =>
    exact ⟨refused (assignReceiveBuffer_fatal fatal _ _), refused (enqueueTransmitBuffer_fatal fatal _ _ _)⟩
  case kills =>
    exact ⟨refused (killReceiveBuffers_fatal fatal b), refused (killTransmitBuffers_fatal fatal b),
      refused (setLineEnabled_fatal fatal)⟩
  case empty => rw [exec_hostPickup, hostPickup_nil empty]

end Sys2Proof.Proofs.WhileFatal

/-! SUPPORT. When each entry of the dispatch table matches (47_dispatch_rules.md R260 to R288), over the fields of the state; and
what an entry that does not match, and the default, leave. -/

namespace Sys2Proof.Proofs.Conditions

open Sys2Proof.Machine Sys2Proof.Proofs.Actions Sys2Proof.Proofs.Rules Sys2Proof.Proofs.Comparator

/-! ### The conditions of a rule as propositions -/

section
variable {ev : Option EventKind} {pkt : Option RxPkt} {s : State} {r : Rule} {st : LinkState} {c : PacketClass}
  {f : Packet → Bool} {P : Packet → Prop}

theorem applies_any_iff (any : r.state = none) : r.applies ev pkt s = true ↔ r.holds ev pkt s = true := by
  simp only [Rule.applies, any, Bool.true_and]

theorem applies_state_iff (own : r.state = some st) :
    r.applies ev pkt s = true ↔ s.link.state = st ∧ r.holds ev pkt s = true := by
  simp only [Rule.applies, own, Bool.and_eq_true, beq_iff_eq, @eq_comm _ st]

theorem xmitIdle_iff : xmitIdle s = true ↔ s.tx.inflight = none ∧ s.tx.fifo = [] := by
  simp [xmitIdle]

theorem userMessageQueued_iff : userMessageQueued s = true ↔ 0 < s.pool.transmit.length := decide_eq_true_iff

theorem ackWaitNotFull_iff : ackWaitNotFull s = true ↔ s.pool.ackWait.length < s.cfg.window := decide_eq_true_iff

theorem tIsNextNew_iff : tIsNextNew s = true ↔ s.link.t = s.link.n + 1 := seqEQ_iff

theorem tBehindNextNew_iff : tBehindNextNew s = true ↔ seqCmp s.link.t (s.link.n + 1) s.cfg.window = -1 := seqLT_iff

/-- A condition on the packet of the scan (R217). -/
theorem packetHas_scan_iff : packetHas (scanPacket s.disp.curEvent s) f = true ↔
    s.disp.curEvent = some .packetReceived ∧ ∃ p, s.tx.rxPkt = some (.packet p) ∧ f p = true := by
  unfold scanPacket
  split
  next arrived =>
    rcases s.tx.rxPkt with _ | p | reason <;> simp [packetHas, arrived]
  next other => simp [packetHas, other]

theorem receives_scan_iff : receives c (scanPacket s.disp.curEvent s) = true ↔ scansPacket c (fun _ => True) s := by
  simp only [receives, packetHas_scan_iff, beq_iff_eq, scansPacket, and_true]

/-- A packet of a class, with a condition on its fields. -/
theorem receives_and_scan_iff (fields : ∀ p, f p = true ↔ P p) :
    (receives c (scanPacket s.disp.curEvent s) && packetHas (scanPacket s.disp.curEvent s) f) = true ↔
      scansPacket c P s := by
  rw [Bool.and_eq_true, receives, packetHas_scan_iff, packetHas_scan_iff]
  constructor
  · rintro ⟨⟨arrived, p, holds, cls⟩, -, q, holds', has⟩
    cases holds.symm.trans holds'
    exact ⟨arrived, p, holds, beq_iff_eq.mp cls, (fields p).mp has⟩
  · rintro ⟨arrived, p, holds, cls, has⟩
    exact ⟨⟨arrived, p, holds, beq_iff_eq.mpr cls⟩, arrived, p, holds, (fields p).mpr has⟩

theorem receiveMessageError_scan_iff : receiveMessageError (scanPacket s.disp.curEvent s) = true ↔
    scansFor .packetReceived s ∧ ∃ reason, s.tx.rxPkt = some (.error reason) := by
  unfold scanPacket scansFor
  split
  next arrived => rcases s.tx.rxPkt with _ | p | reason <;> simp [receiveMessageError, arrived]
  next other => simp [receiveMessageError, other]

end

/-! ### The table (R260 to R288) -/

/-- Lists related element by element: each element of the one has its partner in the other. -/
theorem exists_of_forall₂ {α β : Type*} {R : α → β → Prop} {l : List α} {m : List β} (related : List.Forall₂ R l m) :
    ∀ {x : α}, x ∈ l → ∃ y ∈ m, R x y := by
  induction related with
  | nil => intro x mem; cases mem
  | cons here _ ih =>
    intro x mem
    rcases List.mem_cons.mp mem with rfl | mem
    · exact ⟨_, List.mem_cons_self, here⟩
    · obtain ⟨y, partner, related⟩ := ih mem
      exact ⟨y, List.mem_cons_of_mem _ partner, related⟩

/-- An instruction that tests an entry, with a condition that says when the entry matches. -/
structure Matches (s : State) (x : Instr × Prop) (r : Rule) : Prop where
  tries : exec x.1 s = (tryRule r s).outcome
  applies_iff : r.applies s.disp.curEvent (scanPacket s.disp.curEvent s) s = true ↔ x.2

theorem entries_match (s : State) : List.Forall₂ (Matches s) (entryConditions s) (ruleTable txKick) := by
  simp only [entryConditions, ruleTable, List.forall₂_cons, List.forall₂_nil_right_iff, and_true]
  refine ⟨⟨rfl, ?dr00⟩, ⟨rfl, ?dr01⟩, ⟨rfl, ?dr02⟩, ⟨rfl, ?dr03⟩, ⟨rfl, ?dr04⟩, ⟨rfl, ?dr05⟩, ⟨rfl, ?dr06⟩, ⟨rfl, ?dr07⟩,
    ⟨rfl, ?dr08⟩, ⟨rfl, ?dr09⟩, ⟨rfl, ?dr10⟩, ⟨rfl, ?dr11⟩, ⟨rfl, ?dr12⟩, ⟨rfl, ?dr13⟩, ⟨rfl, ?dr14⟩, ⟨rfl, ?dr15⟩,
    ⟨rfl, ?dr16⟩, ⟨rfl, ?dr17⟩, ⟨rfl, ?dr18⟩, ⟨rfl, ?dr19⟩, ⟨rfl, ?dr20⟩, ⟨rfl, ?dr21⟩, ⟨rfl, ?dr22⟩, ⟨rfl, ?dr23⟩,
    ⟨rfl, ?dr24⟩, ⟨rfl, ?dr25⟩, ⟨rfl, ?dr26⟩, ⟨rfl, ?dr27⟩, ⟨rfl, ?dr28⟩⟩
  case dr00 | dr02 => exact (applies_any_iff rfl).trans isEvent_iff
  case dr04 => exact (applies_any_iff rfl).trans receives_scan_iff
  case dr01 =>
    refine (applies_state_iff rfl).trans (and_congr_right fun _ => ?_)
    rw [dr01, Bool.and_eq_true]
    exact and_congr_left fun _ => isEvent_iff
  case dr06 | dr12 | dr22 => exact (applies_state_iff rfl).trans (and_congr_right fun _ => isEvent_iff)
  case dr03 | dr07 | dr08 | dr11 | dr14 =>
    exact (applies_state_iff rfl).trans (and_congr_right fun _ => receives_scan_iff)
  case dr10 =>
    refine (applies_state_iff rfl).trans (and_congr_right fun _ => ?_)
    simp only [dr10, Bool.or_eq_true, receives_scan_iff, or_assoc]
  case dr09 => exact Interfaces.dr09_applies
  case dr13 => exact Interfaces.dr13_applies
  case dr23 => exact Interfaces.dr23_applies
  case dr17 => exact (applies_state_iff rfl).trans (and_congr_right fun _ => receiveMessageError_scan_iff)
  case dr15 =>
    exact (applies_state_iff rfl).trans (and_congr_right fun _ => receives_and_scan_iff fun p => seqEQ_iff)
  case dr16 =>
    exact (applies_state_iff rfl).trans (and_congr_right fun _ => receives_and_scan_iff fun p => seqGT_iff)
  case dr18 =>
    refine (applies_state_iff rfl).trans (and_congr_right fun _ => ?_)
    have fields : ∀ p : Packet, (seqLT s.cfg.window s.link.a p.resp && seqLE s.cfg.window p.resp s.link.n) = true ↔
        seqCmp s.link.a p.resp s.cfg.window = -1 ∧ seqCmp p.resp s.link.n s.cfg.window ≠ 1 := by
      intro p
      rw [Bool.and_eq_true, seqLT_iff, seqLE_iff]
    simp only [dr18]
    rw [Bool.and_or_distrib_right, Bool.or_eq_true, receives_and_scan_iff fields, receives_and_scan_iff fields]
  case dr19 =>
    refine (applies_state_iff rfl).trans (and_congr_right fun _ => receives_and_scan_iff fun p => ?_)
    rw [Bool.and_eq_true, seqLE_iff, seqLE_iff]
  case dr20 =>
    exact (applies_state_iff rfl).trans (and_congr_right fun _ => receives_and_scan_iff fun p => seqEQ_iff)
  case dr21 =>
    exact (applies_state_iff rfl).trans (and_congr_right fun _ => receives_and_scan_iff fun p => bne_iff_ne)
  case dr05 =>
    refine (applies_state_iff rfl).trans (and_congr_right fun _ => ?_)
    rw [dr05, Bool.and_eq_true, xmitIdle_iff, userMessageQueued_iff]
  case dr24 =>
    refine (applies_state_iff rfl).trans (and_congr_right fun _ => ?_)
    rw [dr24, Bool.and_eq_true, xmitIdle_iff, snakSet]
  case dr25 =>
    refine (applies_state_iff rfl).trans (and_congr_right fun _ => ?_)
    simp only [dr25, Bool.and_eq_true, xmitIdle_iff, snakSet, srepSet, Bool.not_eq_true', and_assoc]
  case dr26 =>
    refine (applies_state_iff rfl).trans (and_congr_right fun _ => ?_)
    simp only [dr26, Bool.and_eq_true, xmitIdle_iff, snakSet, srepSet, Bool.not_eq_true', tBehindNextNew_iff, and_assoc]
  case dr27 =>
    refine (applies_state_iff rfl).trans (and_congr_right fun _ => ?_)
    simp only [dr27, Bool.and_eq_true, xmitIdle_iff, snakSet, srepSet, Bool.not_eq_true', userMessageQueued_iff,
      tIsNextNew_iff, ackWaitNotFull_iff, and_assoc]
  case dr28 =>
    refine (applies_state_iff rfl).trans (and_congr_right fun _ => ?_)
    simp only [dr28, Bool.and_eq_true, xmitIdle_iff, sackSet, tIsNextNew_iff, and_assoc]

/-! ### Entries that do not fire, and the default (R215, R217, R219, R289) -/

section
variable {s : State} {r : Rule}

theorem tryRule_quiet (quiet : s.latch.fatal = true ∨ r.applies s.disp.curEvent (scanPacket s.disp.curEvent s) s = false) :
    tryRule r s = .go (answer (.flag false) s) := by
  have test : (!s.latch.fatal && r.applies s.disp.curEvent (scanPacket s.disp.curEvent s) s) = false := by
    rcases quiet with fatal | other
    · rw [fatal]; rfl
    · rw [other, Bool.and_false]
  simp only [tryRule, test, Bool.false_eq_true, if_false]

/-- Whether no entry of the table matches. -/
def noneMatches (s : State) : Bool :=
  (ruleTable txKick).all fun r => !r.applies s.disp.curEvent (scanPacket s.disp.curEvent s) s

theorem exec_drDefault :
    exec .drDefault s = .next { s with env.reply := .flag (s.latch.fatal || noneMatches s) } := rfl

theorem noneMatches_iff : noneMatches s = true ↔ ∀ x ∈ entryConditions s, ¬ x.2 := by
  have none : noneMatches s = true ↔
      ∀ r ∈ ruleTable txKick, ¬ r.applies s.disp.curEvent (scanPacket s.disp.curEvent s) s = true := by
    simp [noneMatches]
  rw [none]
  exact ⟨fun quiet x mem holds => by
      obtain ⟨r, inTable, same⟩ := exists_of_forall₂ (entries_match s) mem
      exact quiet r inTable (same.applies_iff.mpr holds),
    fun quiet r mem applies => by
      obtain ⟨x, listed, same⟩ := exists_of_forall₂ (entries_match s).flip mem
      exact quiet x listed (same.applies_iff.mp applies)⟩

end

/-- Settles O50: each entry's condition says when it matches, hence when it does not, and when none does. -/
theorem entriesThatDoNotMatchChangeNothing : Obligations.EntriesThatDoNotMatchChangeNothing := by
  refine fun s => ⟨fun x mem quiet => ?entry, fun quiet => ?none, fun live matched => ?some⟩
  case entry =>
    obtain ⟨r, -, same⟩ := exists_of_forall₂ (entries_match s) mem
    rw [same.tries, tryRule_quiet (quiet.imp_right fun fails => ?_)]
    · rfl
    · rwa [← Bool.not_eq_true, same.applies_iff]
  case none =>
    have answers : (s.latch.fatal || noneMatches s) = true := by
      rwa [Bool.or_eq_true, noneMatches_iff]
    rw [exec_drDefault, answers]
  case some =>
    have answers : noneMatches s = false := by
      rw [← Bool.not_eq_true, noneMatches_iff]
      exact fun none => matched.elim fun x has => none x has.1 has.2
    rw [exec_drDefault, live, answers]
    rfl

end Sys2Proof.Proofs.Conditions

/-! SUPPORT. Why a dispatch ends before the bound of the model's loop (46_dispatch_engine.md R220; log 16): a measure of the scans
to come, which each scan lowers. What an event may still bring is counted with the event, pending or scanned; a listed answer
of the transport is counted as the event that its frames bring; the rest is what the link owes of its own accord. -/

namespace Sys2Proof.Proofs.Scans

open Sys2Proof.Machine Sys2Proof.Laws Sys2Proof.Proofs.Timer Sys2Proof.Proofs.Dispatch Sys2Proof.Proofs.FatalLatch
  Sys2Proof.Proofs.Interfaces Sys2Proof.Proofs.Kicks Sys2Proof.Proofs.PoolWrites

/-! ### Events to come -/

/-- The events that are pending, a completed frame apart, and the answers of the transport that may bring one more each. -/
def prospects (s : State) : Nat := credits s.disp.pending + s.env.answers.length

/-- A piece of a dispatch brings no event that no listed answer pays for. -/
def Frugal (f : State → Flow) : Prop := ∀ s t, f s = .go t → prospects t ≤ prospects s

section
variable {s t : State}

theorem prospects_of_ledger (same : ledger t = ledger s) : prospects t = prospects s := by
  obtain ⟨-, -, -, pending, answers, -, -, -⟩ := ledger_eq_iff.mp same
  rw [prospects, pending, answers, prospects]

theorem prospects_poolOnly (only : PoolOnly s t) : prospects t = prospects s := by
  obtain ⟨p, rfl⟩ := only
  rfl

theorem prospects_postEvent (e : EventKind) (s : State) : prospects (postEvent e s) ≤ prospects s + credit e := by
  have posted := credits_posted s.disp.pending e
  simp only [prospects, postEvent_disp, postEvent_env]
  omega

theorem prospects_heard (heard : Heard s t) : prospects t ≤ prospects s + 1 := by
  obtain ⟨-, same | posted⟩ := heard
  · rw [prospects_of_ledger same]
    exact Nat.le_succ _
  · rw [prospects_of_ledger posted]
    exact prospects_postEvent .packetReceived s

/-- An offer takes an answer where one is listed, and one that delivers frames is paid for with it. -/
theorem prospects_offered (b : List Byte) (s : State) :
    prospects (offerFrame b s).2 + delivers (offerFrame b s).1 ≤ prospects s := by
  have taken := offerFrame_answers b s
  obtain ⟨e, kept⟩ := offerFrame_kept b s
  rw [kept] at taken ⊢
  simp only [prospects] at taken ⊢
  omega

theorem prospects_landed (item : TxItem) (s : State) :
    prospects (dispatchScanning .transmitDone (landFlight item s)) ≤ prospects s := by
  obtain ⟨l, landed, -⟩ := landFlight_free item s
  rw [landed]
  unfold dispatchScanning
  split
  · exact le_rfl
  · exact prospects_postEvent .transmitDone _

theorem prospects_kickScanning : ∀ (n : Nat) (s : State), prospects (kickScanning n s) ≤ prospects s
  | 0, s => le_rfl
  | n + 1, s => by
    simp only [kickScanning]
    split
    next => exact le_rfl
    next =>
      split
      next => exact le_rfl
      next item rest _ =>
        have offered := prospects_offered item.bytes s
        have landed : ∀ t, prospects (kickScanning n (dispatchScanning .transmitDone (landFlight item t))) ≤ prospects t :=
          fun t => (prospects_kickScanning n _).trans (prospects_landed item t)
        split
        next => exact Nat.le_of_add_right_le offered
        next => exact Nat.le_of_add_right_le offered
        next => exact (landed _).trans (Nat.le_of_add_right_le offered)
        next frames completes answer =>
          have heard := prospects_heard (heard_foldl frames (takeFlight item rest (offerFrame item.bytes s).2))
          have same : prospects (takeFlight item rest (offerFrame item.bytes s).2) =
            prospects (offerFrame item.bytes s).2 := rfl
          rw [answer, delivers] at offered
          split
          · exact (landed _).trans (by omega)
          · omega

end

/-! ### The actions of the table -/

section
variable {s t : State}

theorem frugal_go {f : State → State} (le : ∀ s, prospects (f s) ≤ prospects s) : Frugal fun s => .go (f s) := by
  intro s t went
  cases went
  exact le s

@[simp] theorem frugal_ledger {f : State → State} (same : ∀ s, ledger (f s) = ledger s) : Frugal fun s => .go (f s) :=
  frugal_go fun s => (prospects_of_ledger (same s)).le

@[simp] theorem frugal_act {f : State → State} (same : ∀ s, ledger (f s) = ledger s) : Frugal (act f) := frugal_ledger same

@[simp] theorem frugal_start : Frugal start := frugal_go fun _ => le_rfl

@[simp] theorem frugal_stop : Frugal stop := frugal_go fun _ => le_rfl

@[simp] theorem frugal_setSNAK (r : BitVec 6) : Frugal fun s => .go (setSNAK r s) := frugal_go fun _ => le_rfl

@[simp] theorem frugal_requeueAckWait : Frugal (act requeueAckWait) :=
  frugal_go fun s => (prospects_poolOnly (poolOnly_requeueAckWait s)).le

@[simp] theorem frugal_resetVariables : Frugal (act resetVariables) := frugal_go fun s => by
  obtain ⟨p, reset, -⟩ := resetVariables_free s
  rw [reset]
  exact le_rfl

@[simp] theorem frugal_completeAcked (resp : Byte) : Frugal fun s => .go (completeAcked resp s) :=
  frugal_go fun s => (prospects_poolOnly (poolOnly_completeLoop resp s.pool.ackWait.length s)).le

@[simp] theorem frugal_onPacket {f : Packet → State → Flow} (hf : ∀ p, Frugal (f p)) (pkt : Option RxPkt) :
    Frugal (onPacket pkt f) := by
  match pkt with
  | some (.packet p) => exact hf p
  | some (.error _) => exact frugal_go fun _ => le_rfl
  | none => exact frugal_go fun _ => le_rfl

@[simp] theorem frugal_onError {f : BitVec 6 → State → Flow} (hf : ∀ r, Frugal (f r)) (pkt : Option RxPkt) :
    Frugal (onError pkt f) := by
  match pkt with
  | some (.error r) => exact hf r
  | some (.packet _) => exact frugal_go fun _ => le_rfl
  | none => exact frugal_go fun _ => le_rfl

theorem frugal_kick : Frugal kickInDispatch := frugal_go fun s => prospects_kickScanning s.tx.fifo.length s

theorem Frugal.andThen {f g : State → Flow} (hf : Frugal f) (hg : Frugal g) : Frugal fun s => (f s).andThen g := by
  intro s t went
  obtain ⟨u, first, second⟩ := andThen_eq_go.mp went
  exact (hg u t second).trans (hf s u first)

theorem frugal_sendControl (b : State → List Byte) : Frugal fun s => sendControl kickInDispatch (b s) s := by
  intro s t sent
  cases cons : s.pool.free with
  | nil => simp only [sendControl, alloc_nil _ cons] at sent; cases sent
  | cons h rest =>
    simp only [sendControl_cons _ _ cons] at sent
    exact frugal_kick (stagedControl (b s) h rest s) t sent

@[simp] theorem frugal_sendStrt : Frugal (sendStrt kickInDispatch) := frugal_sendControl _

@[simp] theorem frugal_sendStack : Frugal (sendStack kickInDispatch) := frugal_sendControl _

@[simp] theorem frugal_sendAck : Frugal (sendAck kickInDispatch) := frugal_sendControl _

@[simp] theorem frugal_sendNak : Frugal (sendNak kickInDispatch) := frugal_sendControl _

@[simp] theorem frugal_sendRep : Frugal (sendRep kickInDispatch) := frugal_sendControl _

theorem frugal_nakLoop : ∀ (n : Nat) (k : Byte), Frugal (nakLoop kickInDispatch n k)
  | 0, _ => frugal_go fun _ => le_rfl
  | n + 1, k =>
    (frugal_sendControl fun s => buildNak s.cfg.gapNakReason k s.cfg.ctlFlags).andThen (frugal_nakLoop n (inc k))

@[simp] theorem frugal_nakMissing (num : Byte) : Frugal (nakMissing kickInDispatch num) :=
  fun s => frugal_nakLoop _ _ s

@[simp] theorem frugal_sendNewData : Frugal (sendNewData kickInDispatch) := by
  intro s t sent
  cases cons : s.pool.transmit with
  | nil => simp only [sendNewData, cons] at sent; cases sent; exact le_rfl
  | cons h rest =>
    obtain ⟨item, p, moves, -⟩ := sendNewData_moves kickInDispatch cons
    have kicked := frugal_kick _ t (moves.symm.trans sent)
    exact kicked

@[simp] theorem frugal_sendMaintMessage : Frugal (sendMaintMessage kickInDispatch) := by
  intro s t sent
  cases cons : s.pool.transmit with
  | nil => simp only [sendMaintMessage, cons] at sent; cases sent; exact le_rfl
  | cons h rest =>
    obtain ⟨item, p, moves, -⟩ := sendMaintMessage_moves kickInDispatch cons
    have kicked := frugal_kick _ t (moves.symm.trans sent)
    exact kicked

@[simp] theorem frugal_retransmitT : Frugal (retransmitT kickInDispatch) := by
  intro s t sent
  cases found : findSeq s s.link.t with
  | none => rw [Actions.retransmitT_none _ found] at sent; cases sent
  | some h =>
    rw [Actions.retransmitT_some _ found] at sent
    obtain ⟨u, kicked, bumped⟩ := andThen_eq_go.mp sent
    cases bumped
    exact frugal_kick (Actions.beforeBump h s) u kicked

/-- Every action that an entry of the table lists. -/
theorem frugal_actions (pkt : Option RxPkt) : ∀ r ∈ ruleTable kickInDispatch, ∀ a ∈ r.actions pkt, Frugal a := by
  simp [ruleTable, dr00, dr01, dr02, dr03, dr04, dr05, dr06, dr07, dr08, dr09, dr10, dr11, dr12, dr13, dr14, dr15, dr16,
    dr17, dr18, dr19, dr20, dr21, dr22, dr23, dr24, dr25, dr26, dr27, dr28, setSNAKFromError,
    notifyDisconnect, notifyMaintReceived]
  refine ⟨?_, ?_, ?_, ?_, ?_, ?_, ?_, ?_, ?_, ?_⟩ <;> exact frugal_act fun _ => rfl

theorem frugal_runActions : ∀ {l : List (State → Flow)}, (∀ a ∈ l, Frugal a) → Frugal (runActions l)
  | [], _ => frugal_go fun _ => le_rfl
  | a :: _, each => (each a List.mem_cons_self).andThen (frugal_runActions fun b mem => each b (List.mem_cons_of_mem a mem))

theorem frugal_fire {r : Rule} (mem : r ∈ ruleTable kickInDispatch) (pkt : Option RxPkt) : Frugal (r.fire pkt) :=
  (frugal_runActions (frugal_actions pkt r mem)).andThen (frugal_go fun _ => le_rfl)

end

/-! ### The measure -/

/-- The timer that a link in IStart has yet to start (R269). -/
def unstarted (s : State) : Nat := if s.link.state = .iStart ∧ s.timer.running = false then 1 else 0

/-- The firings that the link makes of its own accord: what it sends (`debt`), a disconnection, and the start of the timer. -/
def owed (k : Nat) (s : State) : Nat := debt (k + 1) s + unstarted s

/-- More scans than an event can bring: its own, one for a frame that completes, and what the link may owe after it, each
firing with one more for a frame that completes. -/
def perScan (k : Nat) : Nat := 4 * k + 524

/-- What the event of a scan may bring: a completed frame only records its number (R283). -/
def price (k : Nat) : Option EventKind → Nat
  | none => 0
  | some e => if e = .transmitDone then 1 else perScan k

/-- A bound of the scans that follow a firing. -/
def work (k : Nat) (s : State) : Nat :=
  perScan k * prospects s + s.disp.pending.transmitDone.toNat + 2 * owed k s

section
variable {s t : State} {k : Nat} {ev : Option EventKind} {pkt : Option RxPkt} {r : Rule}

theorem unstarted_le (s : State) : unstarted s ≤ 1 := by
  unfold unstarted
  split <;> omega

theorem unstarted_eq_zero (other : s.link.state ≠ .iStart) : unstarted s = 0 := if_neg fun is => other is.1

theorem owed_le (le : stock s ≤ k) : owed k s ≤ 2 * k + 261 := by
  have := debt_le (k := k + 1) (s := s) (by omega)
  have := unstarted_le s
  unfold owed
  omega

theorem fire_newState (fired : r.fire pkt s = .go t) : t.link.state = r.newState := by
  obtain ⟨u, -, set⟩ := andThen_eq_go.mp fired
  cases set
  rfl

/-- An entry that sends one frame. -/
theorem owed_idleEntry (mem : r ∈ idleEntries kickInDispatch) (applies : r.applies ev pkt s = true)
    (fired : r.fire pkt s = .go t) : owed k t < owed k s := by
  have paid := (pays_of_idleEntry mem applies fired).debt_lt (k + 1)
  have other : r.newState ≠ .iStart := by
    simp only [idleEntries, List.mem_cons, List.not_mem_nil, or_false] at mem
    rcases mem with rfl | rfl | rfl | rfl | rfl | rfl <;> simp [dr05, dr24, dr25, dr26, dr27, dr28]
  have started := unstarted_eq_zero (by rwa [fire_newState fired])
  unfold owed
  omega

theorem owed_dr09 (applies : dr09.applies ev pkt s = true) (fired : dr09.fire pkt s = .go t) : owed k t < owed k s := by
  obtain ⟨iStart, stopped⟩ := dr09_applies.mp applies
  obtain ⟨v, started, rfl⟩ := fire_first (f := id) rfl (fun _ => rfl) fired
  cases started
  simp [owed, debt, unstarted, iStart, stopped, dr09]

/-- A disconnection leaves Run, where more was owed than it can put back. -/
theorem owed_dr13 (le : stock s ≤ k) (applies : dr13.applies ev pkt s = true) (fired : dr13.fire pkt s = .go t) :
    owed k t < owed k s := by
  obtain ⟨run, -⟩ := dr13_applies.mp applies
  have halted := unstarted_eq_zero (s := t) (by rw [fire_newState fired]; decide)
  obtain ⟨v, stopped, rfl⟩ :=
    fire_first (f := fun v => requeueAckWait (clearStartReceived (notifyDisconnect v))) rfl (fun _ => rfl) fired
  cases stopped
  have link : (clearStartReceived (notifyDisconnect (stopTimer s))).link = s.link := notify_link _ _
  have kept : ledger (clearStartReceived (notifyDisconnect (stopTimer s))) = ledger s := notify_ledger _ _
  have kept := (follows_of_ledger kept).stock_le
  obtain ⟨d, m, requeued, most⟩ := requeueAckWait_stock (clearStartReceived (notifyDisconnect (stopTimer s)))
  rw [owed, halted, requeued, owed]
  simp only [debt, dr13, link, run, if_true, reduceCtorEq, if_false]
  omega

/-- A completed frame: nothing more is owed, and nothing is pending that was not (R283). -/
theorem work_dr23 (run : s.link.state = .run) (fired : dr23.fire pkt s = .go t) : work k t = work k s := by
  have running := unstarted_eq_zero (s := t) (by rw [fire_newState fired]; decide)
  have running' := unstarted_eq_zero (s := s) (by rw [run]; decide)
  obtain ⟨v, numbered, rfl⟩ := fire_first (f := startOrStopTimerByAX) rfl (fun _ => rfl) fired
  cases numbered
  rw [Rules.startOrStopTimerByAX_closed] at running ⊢
  simp only [work, owed, running, running', prospects, debt, run]
  rfl

/-- A firing: what it brings, the scan's event pays for; where there is none, the link owes less. -/
theorem fire_work (le : stock s ≤ k) (mem : r ∈ ruleTable kickInDispatch)
    (applies : r.applies ev (scanPacket ev s) s = true) (fired : r.fire (scanPacket ev s) s = .go t) :
    work k t < work k s + price k ev := by
  have fewer := Nat.mul_le_mul_left (perScan k) (frugal_fire mem _ s t fired)
  have posted := Bool.toNat_le t.disp.pending.transmitDone
  have paysItself : owed k t < owed k s → work k t < work k s + price k ev := by
    intro less
    unfold work
    omega
  by_cases unlisted : ev = none ∨ ev = some .transmitDone
  case neg =>
    obtain ⟨e, rfl⟩ : ∃ e, ev = some e := Option.ne_none_iff_exists'.mp fun h => unlisted (.inl h)
    have costly : price k (some e) = perScan k := if_neg fun h => unlisted (.inr (congrArg some h))
    have left := owed_le ((fire_charge le mem applies fired).1.stock_le.trans le)
    rw [costly]
    unfold work
    simp only [perScan] at fewer ⊢
    omega
  case pos =>
    have quiet : Unlisted ev := unlisted.imp_right fun sent => .inr (.inr sent)
    rw [scanPacket_unlisted quiet] at applies fired
    rcases mem_ruleTable_iff.mp mem with idle | rfl | rfl | rfl | event
    · exact paysItself (owed_idleEntry idle applies fired)
    · exact paysItself (owed_dr09 applies fired)
    · exact paysItself (owed_dr13 le applies fired)
    · obtain ⟨run, rfl, -⟩ := dr23_applies.mp applies
      rw [work_dr23 run fired]
      exact Nat.lt_succ_self _
    · rw [eventEntries_quiet quiet r event] at applies
      cases applies

theorem scan_work (le : stock s ≤ k) (scanned : scan ev s = some (.go t)) : work k t < work k s + price k ev := by
  obtain ⟨j, r, at_j, applies, -, fired⟩ := scanFrom_eq_some_iff.mp scanned
  have mem := List.mem_of_getElem? at_j
  have applies : r.applies ev (scanPacket ev s) { s with disp.scanIndex := 0 + j } = true :=
    (applies_disp kickInDispatch ev _ s _ r mem).trans applies
  exact fire_work (s := { s with disp.scanIndex := 0 + j }) le mem applies fired.symm

/-- An event taken from `pending` was counted there. -/
theorem work_takePending {e : EventKind} (pending : pendingFirst s.disp.pending = some e) :
    work k (takePending e s) + price k (some e) = work k s := by
  have has := List.find?_some pending
  have taken := credits_taken has
  have counted : perScan k * prospects (takePending e s) + perScan k * credit e = perScan k * prospects s := by
    have listed : prospects (takePending e s) = credits (pendingSet s.disp.pending e false) + s.env.answers.length := rfl
    rw [← Nat.mul_add, listed, prospects]
    congr 1
    omega
  have same : owed k (takePending e s) = owed k s := rfl
  by_cases sent : e = .transmitDone
  · subst sent
    have has : s.disp.pending.transmitDone = true := has
    have cleared : (takePending .transmitDone s).disp.pending.transmitDone = false := rfl
    rw [credit, if_pos rfl, Nat.mul_zero] at counted
    rw [price, if_pos rfl, work, work, same, has, cleared, Bool.toNat_true, Bool.toNat_false]
    omega
  · have kept : (takePending e s).disp.pending.transmitDone = s.disp.pending.transmitDone := by
      rw [takePending_disp]
      cases e with
      | transmitDone => exact absurd rfl sent
      | _ => rfl
    rw [credit, if_neg sent, Nat.mul_one] at counted
    rw [price, if_neg sent, work, work, same, kept]
    omega

theorem price_bounds (k : Nat) (e : EventKind) : 1 ≤ price k (some e) ∧ price k (some e) ≤ perScan k := by
  simp only [price, perScan]
  split <;> omega

/-- The loop meets its bound only where a scan does, which none does: each scan lowers what is left. -/
theorem dispatchLoop_ne_overrun (whole : ∀ ev s, scan ev s ≠ some .overrun) : ∀ {n : Nat} {ev : Option EventKind} {s : State},
    stock s ≤ k → (ev = none → pendingFirst s.disp.pending = none) → work k s + price k ev < n →
      dispatchLoop n ev s ≠ .overrun
  | 0, _, _, _, _, small => absurd small (Nat.not_lt_zero _)
  | n + 1, ev, s, le, awaited, small => by
    have same : work k { s with disp.curEvent := ev } = work k s := rfl
    simp only [dispatchLoop]
    split
    next => simp
    next overran => exact absurd overran (whole ev _)
    next s1 scanned =>
      have less := scan_work (k := k) (s := { s with disp.curEvent := ev }) le scanned
      have le := (scan_charge (k := k) (s := { s with disp.curEvent := ev }) le scanned).1.stock_le.trans le
      split
      next e pending =>
        have taken := work_takePending (k := k) pending
        exact dispatchLoop_ne_overrun whole (s := takePending e s1) le nofun (by omega)
      next empty => exact dispatchLoop_ne_overrun whole le (fun _ => empty) (by simp only [price]; omega)
    next =>
      split
      next e pending =>
        have taken := work_takePending (k := k) (s := { s with disp.curEvent := ev }) pending
        have brought : 1 ≤ price k ev := by
          match ev with
          | none => exact absurd (pending.symm.trans (awaited rfl)) nofun
          | some e => exact (price_bounds k e).1
        exact dispatchLoop_ne_overrun whole (s := takePending e { s with disp.curEvent := ev }) le nofun (by omega)
      next => simp

/-- The bound of the loop exceeds what a dispatch can bring. -/
theorem work_lt_budget (e : EventKind) (s : State) : work (stock s) s + price (stock s) (some e) < budget s := by
  have events := credits_le s.disp.pending
  have sent := Bool.toNat_le s.disp.pending.transmitDone
  have left := owed_le (le_refl (stock s))
  have cost := (price_bounds (stock s) e).2
  have paid : perScan (stock s) * prospects s ≤ perScan (stock s) * (s.env.answers.length + 7) :=
    Nat.mul_le_mul_left _ (by unfold prospects; omega)
  have large : 40 * (stock s + 300) * (s.env.answers.length + 1) ≤ budget s := Nat.le_add_right _ _
  have whole : 40 * (stock s + 300) * (s.env.answers.length + 1) =
      40 * (stock s * s.env.answers.length) + 12000 * s.env.answers.length + 40 * stock s + 12000 := by ring
  have part : perScan (stock s) * (s.env.answers.length + 7) =
      4 * (stock s * s.env.answers.length) + 524 * s.env.answers.length + 28 * stock s + 3668 := by
    unfold perScan
    ring
  simp only [perScan] at cost
  unfold work
  omega

theorem dispatch_ne_overrun (whole : ∀ ev s, scan ev s ≠ some .overrun) (e : EventKind) (s : State) :
    dispatch e s ≠ .overrun := by
  simp only [dispatch]
  split
  next => simp
  next =>
    split
    next => simp
    next => exact dispatchLoop_ne_overrun whole (s := enterDispatch s) le_rfl nofun (work_lt_budget e s)

end

end Sys2Proof.Proofs.Scans

/-! SUPPORT. What a step can do to the state, once for every property that the steps keep: a property that the shared
operations keep (`Stable`) is kept by every action, every entry of the table, every dispatch, every kick, and every call of the
host, the transport and the tick source. From it: no scan, and so no dispatch, meets the bound of the model's loops. -/

namespace Sys2Proof.Proofs.Walk

open Sys2Proof.Machine Sys2Proof.Laws Sys2Proof.Proofs.Timer Sys2Proof.Proofs.Dispatch Sys2Proof.Proofs.FatalLatch
  Sys2Proof.Proofs.Actions Sys2Proof.Proofs.Rules Sys2Proof.Proofs.Interfaces Sys2Proof.Proofs.Kicks
  Sys2Proof.Proofs.PoolWrites Sys2Proof.Proofs.Scans

/-- A property of states that the shared operations keep, the transmitter's apart. Where an operation stages a frame, the kick
that follows it is taken apart from it: its `tx_kick` is `Flow.go`. -/
structure Steady (P : State → Prop) : Prop where
  plain : ∀ {s : State} {d : Dispatcher} {l : Latches} {e : Env}, P s → e.mem = s.env.mem →
    P { s with disp := d, latch := l, env := e }
  received : ∀ {s : State} {rx : RxPkt}, P s → P { s with tx.rxPkt := some rx }
  link : ∀ {s : State} {l : LinkVars}, P s → (l.sack = true → l.snak = true → s.link.sack = true ∧ s.link.snak = true) →
    P { s with link := l }
  started : ∀ {s : State}, P s → P (startTimer s)
  stopped : ∀ {s : State}, P s → P (stopTimer s)
  expired : ∀ {s : State}, P s → P { s with timer := { running := false, remaining := 0 } }
  counted : ∀ {s : State}, P s → s.timer.remaining - 1 ≠ 0 → P { s with timer.remaining := s.timer.remaining - 1 }
  noted : ∀ {s : State} {c : EventCode}, c.isEvent = true → P s → P (notify c s)
  control : ∀ {s t : State} {b : List Byte}, P s → sendControl Flow.go b s = .go t → P t
  newData : ∀ {s t : State}, P s → sendNewData Flow.go s = .go t → P t
  maint : ∀ {s t : State}, P s → sendMaintMessage Flow.go s = .go t → P t
  resent : ∀ {s : State} {i : TxItem}, P s → i.desc = none → i.kind ≠ .control → P { s with tx.fifo := s.tx.fifo ++ [i] }
  requeued : ∀ {s : State}, P s → P (requeueAckWait s)
  cleared : ∀ {s : State}, P s → P (resetVariables s)
  acked : ∀ {s : State} {resp : Byte}, P s → P (completeAcked resp s)
  delivered : ∀ {s : State} {h : Handle} {rest : List Handle} {p : Packet} {c : EventCode}, P s → s.pool.receive = h :: rest →
    P (deliver h rest p c s)

/-- A property that the transmitter's operations keep too. -/
structure Stable (P : State → Prop) : Prop extends Steady P where
  taken : ∀ {s : State} {i : TxItem} {rest : List TxItem}, P s → s.tx.inflight = none → s.tx.fifo = i :: rest →
    P (takeFlight i rest s)
  landed : ∀ {s : State} {i : TxItem}, P s → s.tx.inflight = some i → P (landFlight i s)

/-- How a piece of a step comes out: in a state with the property, or, where that can be, at the loops' bound. -/
def Meets (P : State → Prop) (stuck : Prop) : Flow → Prop
  | .go t => P t
  | .ended t => P t
  | .overrun => stuck

section
variable {P : State → Prop} {stuck : Prop}

theorem Meets.andThen {f : Flow} {g : State → Flow} (first : Meets P stuck f) (second : ∀ t, P t → Meets P stuck (g t)) :
    Meets P stuck (f.andThen g) := by
  cases f with
  | go t => exact second t first
  | ended t => exact first
  | overrun => exact first

/-- A piece of a step that keeps the property. -/
def Keeps (P : State → Prop) (stuck : Prop) (f : State → Flow) : Prop := ∀ s, P s → Meets P stuck (f s)

theorem Keeps.andThen {f g : State → Flow} (hf : Keeps P stuck f) (hg : Keeps P stuck g) :
    Keeps P stuck fun s => (f s).andThen g :=
  fun s holds => (hf s holds).andThen hg

theorem keeps_runActions : ∀ {l : List (State → Flow)}, (∀ a ∈ l, Keeps P stuck a) → Keeps P stuck (runActions l)
  | [], _ => fun _ holds => holds
  | a :: _, each => (each a List.mem_cons_self).andThen (keeps_runActions fun b mem => each b (List.mem_cons_of_mem a mem))

@[simp] theorem keeps_onPacket {f : Packet → State → Flow} (hf : ∀ p, Keeps P stuck (f p)) (pkt : Option RxPkt) :
    Keeps P stuck (onPacket pkt f) := by
  match pkt with
  | some (.packet p) => exact hf p
  | some (.error _) => exact fun _ holds => holds
  | none => exact fun _ holds => holds

@[simp] theorem keeps_onError {f : BitVec 6 → State → Flow} (hf : ∀ r, Keeps P stuck (f r)) (pkt : Option RxPkt) :
    Keeps P stuck (onError pkt f) := by
  match pkt with
  | some (.error r) => exact hf r
  | some (.packet _) => exact fun _ holds => holds
  | none => exact fun _ holds => holds

/-! ### The boundary and the dispatcher's bookkeeping -/

section
variable (steady : Steady P) {s : State} (holds : P s)
include steady holds

theorem holds_disp (d : Dispatcher) : P { s with disp := d } := steady.plain (l := s.latch) (e := s.env) holds rfl

theorem holds_latch (l : Latches) : P { s with latch := l } := steady.plain (d := s.disp) (e := s.env) holds rfl

theorem holds_env {e : Env} (same : e.mem = s.env.mem) : P { s with env := e } :=
  steady.plain (d := s.disp) (l := s.latch) holds same

theorem holds_answer (r : Reply) : P (answer r s) := holds_env steady holds rfl

/-- The record that tells of the fatal condition is the last thing written (R346). -/
theorem holds_raiseFatal (c : FatalCause) : P (raiseFatal c s) :=
  steady.noted (s := { stopTimer { s with link.state := .halt } with
    disp := restingDispatcher, latch.fatal := true, env.dump := some (dumpOf c s) }) rfl
    (steady.plain (steady.stopped (steady.link holds fun sack snak => ⟨sack, snak⟩)) rfl)

theorem holds_corruptionChoice : P (corruptionChoice s).2 := by
  unfold corruptionChoice
  split
  · exact holds
  · split <;> exact holds_env steady holds rfl

theorem holds_transportSend (b : List Byte) : P (transportSend b s).2 := by
  have answered : P (transportAnswer s).2 := by
    unfold transportAnswer
    split <;> exact holds_env steady holds rfl
  simp only [transportSend]
  split
  · exact answered
  · exact holds_env steady answered rfl

theorem holds_offerFrame (b : List Byte) : P (offerFrame b s).2 := by
  have chosen := holds_corruptionChoice steady holds
  simp only [offerFrame]
  split
  · exact chosen
  · exact holds_transportSend steady chosen b
  · exact holds_transportSend steady chosen _

theorem holds_heard (b : List Byte) : P (heard b s).2 := by
  have chosen := holds_corruptionChoice steady holds
  simp only [heard]
  split <;> exact chosen

theorem holds_dispatchScanning (e : EventKind) : P (dispatchScanning e s) := by
  unfold dispatchScanning
  split
  · exact holds
  · exact holds_disp steady holds _

theorem holds_receiveScanning (b : List Byte) : P (receiveScanning s b) := by
  have heard := holds_heard steady holds b
  simp only [receiveScanning]
  split
  · exact holds
  · split
    · exact holds_dispatchScanning steady (steady.received heard) _
    · exact heard

end

theorem holds_receptions (steady : Steady P) : ∀ (frames : List (List Byte)) {s : State}, P s →
    P (frames.foldl receiveScanning s)
  | [], _, holds => holds
  | b :: frames, _, holds => holds_receptions steady frames (holds_receiveScanning steady holds b)

/-- What an item that is offered and taken leaves in flight. -/
theorem holds_takeFlight (stable : Stable P) {s : State} {item : TxItem} {rest : List TxItem} (holds : P s)
    (idle : s.tx.inflight = none) (cons : s.tx.fifo = item :: rest) :
    P (takeFlight item rest (offerFrame item.bytes s).2) := by
  have offered := holds_offerFrame stable.toSteady holds item.bytes
  obtain ⟨e, kept⟩ := offerFrame_kept item.bytes s
  rw [kept] at offered ⊢
  exact stable.taken offered idle cons

/-- Frames that are received while one is in flight leave it in flight. -/
theorem receiveScanning_inflight (b : List Byte) (s : State) : (receiveScanning s b).tx.inflight = s.tx.inflight := by
  obtain ⟨-, -, heard, -⟩ := ledger_eq_iff.mp (heard_ledger s b)
  simp only [receiveScanning]
  split
  · rfl
  · split
    · unfold dispatchScanning
      split <;> exact heard
    · exact heard

theorem receptions_inflight : ∀ (frames : List (List Byte)) (s : State),
    (frames.foldl receiveScanning s).tx.inflight = s.tx.inflight
  | [], _ => rfl
  | b :: frames, s => (receptions_inflight frames _).trans (receiveScanning_inflight b s)

theorem holds_kickScanning (stable : Stable P) : ∀ (n : Nat) {s : State}, P s → P (kickScanning n s)
  | 0, _, holds => holds
  | n + 1, s, holds => by
    have landed : ∀ {item : TxItem} {t : State}, P t → t.tx.inflight = some item →
        P (kickScanning n (dispatchScanning .transmitDone (landFlight item t))) := fun holds flying =>
      holds_kickScanning stable n (holds_dispatchScanning stable.toSteady (stable.landed holds flying) _)
    simp only [kickScanning]
    split
    next => exact holds
    next idle =>
      split
      next => exact holds
      next item rest cons =>
        have sent := holds_takeFlight stable holds (Option.not_isSome_iff_eq_none.mp idle) cons
        split
        next => exact holds_offerFrame stable.toSteady holds _
        next => exact sent
        next => exact landed sent rfl
        next frames completes _ =>
          have heard := holds_receptions stable.toSteady frames sent
          split
          · exact landed heard (receptions_inflight frames _)
          · exact heard

theorem keeps_kickInDispatch (stable : Stable P) : Keeps P stuck kickInDispatch :=
  fun s holds => holds_kickScanning stable s.tx.fifo.length holds

/-! ### The actions and the entries -/

section
variable (steady : Steady P)
include steady

@[simp] theorem keeps_start : Keeps P stuck start := fun _ holds => steady.started holds

@[simp] theorem keeps_stop : Keeps P stuck stop := fun _ holds => steady.stopped holds

theorem keeps_link {f : State → State} {g : State → LinkVars} (set : ∀ s, f s = { s with link := g s })
    (apart : ∀ s, (g s).sack = true → (g s).snak = true → s.link.sack = true ∧ s.link.snak = true) : Keeps P stuck (act f) := by
  intro s holds
  rw [act, set]
  exact steady.link holds (apart s)

@[simp] theorem keeps_notify {c : EventCode} (event : c.isEvent = true) : Keeps P stuck (act (notify c)) :=
  fun _ holds => steady.noted event holds

@[simp] theorem keeps_setSACK : Keeps P stuck (act setSACK) := keeps_link steady (fun _ => rfl) fun _ _ snak => nomatch snak

@[simp] theorem keeps_setSNAK (r : BitVec 6) : Keeps P stuck (act (setSNAK r)) :=
  keeps_link steady (fun _ => rfl) fun _ sack => nomatch sack

@[simp] theorem keeps_clearSNAK : Keeps P stuck (act clearSNAK) := keeps_link steady (fun _ => rfl) fun _ _ snak => nomatch snak

@[simp] theorem keeps_clearSACK : Keeps P stuck (act clearSACK) := keeps_link steady (fun _ => rfl) fun _ sack => nomatch sack

@[simp] theorem keeps_setSREP : Keeps P stuck (act setSREP) := keeps_link steady (fun _ => rfl) fun _ sack snak => ⟨sack, snak⟩

@[simp] theorem keeps_clearSREP : Keeps P stuck (act clearSREP) :=
  keeps_link steady (fun _ => rfl) fun _ sack snak => ⟨sack, snak⟩

@[simp] theorem keeps_setTToAplus1 : Keeps P stuck (act setTToAplus1) :=
  keeps_link steady (fun _ => rfl) fun _ sack snak => ⟨sack, snak⟩

@[simp] theorem keeps_setXToSentNum : Keeps P stuck (act setXToSentNum) :=
  keeps_link steady (fun _ => rfl) fun _ sack snak => ⟨sack, snak⟩

@[simp] theorem keeps_bumpT : Keeps P stuck (act bumpT) :=
  keeps_link steady (fun _ => bumpT_closed) fun _ sack snak => ⟨sack, snak⟩

@[simp] theorem keeps_stopTimerIfAGeX : Keeps P stuck (act stopTimerIfAGeX) := by
  intro s holds
  simp only [act, Meets, stopTimerIfAGeX]
  split
  · exact steady.stopped holds
  · exact holds

@[simp] theorem keeps_startOrStopTimerByAX : Keeps P stuck (act startOrStopTimerByAX) := by
  intro s holds
  simp only [act, Meets, startOrStopTimerByAX]
  split
  · exact steady.started holds
  · exact steady.stopped holds

@[simp] theorem keeps_clearStartReceived : Keeps P stuck (act clearStartReceived) := fun _ holds => holds_latch steady holds _

@[simp] theorem keeps_notifyStartReceived : Keeps P stuck (act notifyStartReceived) :=
  fun _ holds => steady.noted rfl (holds_latch steady holds _)

@[simp] theorem keeps_requeueAckWait : Keeps P stuck (act requeueAckWait) := fun _ holds => steady.requeued holds

@[simp] theorem keeps_resetVariables : Keeps P stuck (act resetVariables) := fun _ holds => steady.cleared holds

@[simp] theorem keeps_completeAcked (resp : Byte) : Keeps P stuck fun s => .go (completeAcked resp s) :=
  fun _ holds => steady.acked holds

@[simp] theorem keeps_giveBufferToUser (p : Packet) : Keeps P stuck fun s => .go (giveBufferToUser p s) := by
  intro s holds
  simp only [Meets, giveBufferToUser]
  split
  next => exact keeps_setSNAK (stuck := stuck) steady nakNoBuffer s holds
  next h rest cons =>
    split
    next => exact keeps_setSNAK (stuck := stuck) steady nakTooLong s holds
    next =>
      have advanced : P { deliver h rest p .rxBufferComplete s with
          link.r := inc (deliver h rest p .rxBufferComplete s).link.r } :=
        steady.link (steady.delivered holds cons) fun sack snak => ⟨sack, snak⟩
      exact keeps_setSACK (stuck := stuck) steady _ advanced

@[simp] theorem keeps_deliverMaintToHost (p : Packet) : Keeps P stuck fun s => .go (deliverMaintToHost p s) := by
  intro s holds
  simp only [Meets, deliverMaintToHost]
  split
  next => exact holds
  next h rest cons =>
    split
    next => exact holds
    next => exact steady.delivered holds cons

end

/-- A control frame is staged, and then `tx_kick` runs. -/
theorem sendControl_then (kick : State → Flow) (b : List Byte) (s : State) :
    sendControl kick b s = (sendControl Flow.go b s).andThen kick := by
  unfold sendControl
  split <;> rfl

section
variable (steady : Steady P) {kick : State → Flow} (hk : Keeps P stuck kick)
include steady hk

theorem keeps_sendControl (b : State → List Byte) : Keeps P stuck fun s => sendControl kick (b s) s := by
  intro s holds
  change Meets P stuck (sendControl kick (b s) s)
  rw [sendControl_then]
  cases cons : s.pool.free with
  | nil =>
    rw [show sendControl Flow.go (b s) s = .ended (raiseFatal .poolExhausted s) by simp only [sendControl, alloc_nil _ cons]]
    exact holds_raiseFatal steady holds _
  | cons h rest =>
    have staged := sendControl_cons Flow.go (b s) cons
    rw [staged]
    exact hk _ (steady.control holds staged)

@[simp] theorem keeps_sendStrt : Keeps P stuck (sendStrt kick) := keeps_sendControl steady hk _

@[simp] theorem keeps_sendStack : Keeps P stuck (sendStack kick) := keeps_sendControl steady hk _

@[simp] theorem keeps_sendAck : Keeps P stuck (sendAck kick) := keeps_sendControl steady hk _

@[simp] theorem keeps_sendNak : Keeps P stuck (sendNak kick) := keeps_sendControl steady hk _

@[simp] theorem keeps_sendRep : Keeps P stuck (sendRep kick) := keeps_sendControl steady hk _

theorem keeps_nakLoop : ∀ (n : Nat) (k : Byte), Keeps P stuck (nakLoop kick n k)
  | 0, _ => fun _ holds => holds
  | n + 1, k => (keeps_sendControl steady hk fun s => buildNak s.cfg.gapNakReason k s.cfg.ctlFlags).andThen
      (keeps_nakLoop n (inc k))

@[simp] theorem keeps_nakMissing (num : Byte) : Keeps P stuck (nakMissing kick num) :=
  fun s => keeps_nakLoop steady hk _ _ s

@[simp] theorem keeps_sendNewData : Keeps P stuck (sendNewData kick) := by
  intro s holds
  cases cons : s.pool.transmit with
  | nil =>
    simp only [sendNewData, cons]
    exact holds
  | cons h rest =>
    obtain ⟨item, p, moves, -⟩ := sendNewData_moves Flow.go cons
    have then_kick : sendNewData kick s = (sendNewData Flow.go s).andThen kick := by
      simp only [sendNewData, cons]
      rfl
    rw [then_kick, moves]
    exact hk _ (steady.newData holds moves)

@[simp] theorem keeps_sendMaintMessage : Keeps P stuck (sendMaintMessage kick) := by
  intro s holds
  cases cons : s.pool.transmit with
  | nil =>
    simp only [sendMaintMessage, cons]
    exact holds
  | cons h rest =>
    obtain ⟨item, p, moves, -⟩ := sendMaintMessage_moves Flow.go cons
    have then_kick : sendMaintMessage kick s = (sendMaintMessage Flow.go s).andThen kick := by
      simp only [sendMaintMessage, cons]
      rfl
    rw [then_kick, moves]
    exact hk _ (steady.maint holds moves)

@[simp] theorem keeps_retransmitT : Keeps P stuck (retransmitT kick) := by
  intro s holds
  simp only [retransmitT]
  split
  next => exact holds_raiseFatal steady holds _
  next => exact (hk _ (steady.resent holds rfl (by simp))).andThen fun t kept => steady.link kept fun sack snak => ⟨sack, snak⟩

/-- Every action that an entry of the table lists. -/
theorem keeps_actions (pkt : Option RxPkt) : ∀ r ∈ ruleTable kick, ∀ a ∈ r.actions pkt, Keeps P stuck a := by
  have noSnak : ∀ r, Keeps P stuck fun s => .go (setSNAKFromError r s) := keeps_setSNAK steady
  have left : Keeps P stuck (act notifyDisconnect) := keeps_notify steady rfl
  have entered : Keeps P stuck (act notifyMaintReceived) := keeps_notify steady rfl
  simp [ruleTable, dr00, dr01, dr02, dr03, dr04, dr05, dr06, dr07, dr08, dr09, dr10, dr11, dr12, dr13, dr14, dr15, dr16,
    dr17, dr18, dr19, dr20, dr21, dr22, dr23, dr24, dr25, dr26, dr27, dr28, steady, hk, noSnak, left, entered]

theorem keeps_fire {r : Rule} (mem : r ∈ ruleTable kick) (pkt : Option RxPkt) : Keeps P stuck (r.fire pkt) :=
  (keeps_runActions (keeps_actions steady hk pkt r mem)).andThen fun _ holds =>
    steady.link holds fun sack snak => ⟨sack, snak⟩

end

/-! ### A scan, a dispatch, a reception -/

section
variable (steady : Steady P) (hk : Keeps P False kickInDispatch)
include steady hk

theorem scan_meets {ev : Option EventKind} {s : State} {f : Flow} (holds : P s) (scanned : scan ev s = some f) :
    Meets P False f := by
  obtain ⟨j, r, at_j, -, -, fired⟩ := scanFrom_eq_some_iff.mp scanned
  rw [fired]
  exact keeps_fire steady hk (List.mem_of_getElem? at_j) _ _ (holds_disp steady holds _)

theorem dispatchLoop_meets : ∀ {n : Nat} {ev : Option EventKind} {s : State}, P s → Meets P True (dispatchLoop n ev s)
  | 0, _, _, _ => trivial
  | n + 1, ev, s, holds => by
    have began := holds_disp steady holds { s.disp with curEvent := ev }
    simp only [dispatchLoop]
    split
    next s1 ended => exact scan_meets steady hk began ended
    next overran => trivial
    next s1 fired =>
      have holds : P s1 := scan_meets steady hk began fired
      split
      · exact dispatchLoop_meets (holds_disp steady holds _)
      · exact dispatchLoop_meets holds
    next =>
      split
      · exact dispatchLoop_meets (holds_disp steady began _)
      · exact holds_disp steady began _

end

/-- The entries run no loop of the model that has a bound to meet. -/
theorem scan_ne_overrun (ev : Option EventKind) (s : State) : scan ev s ≠ some .overrun := by
  have always : Stable fun _ => True := by
    refine { toSteady := ?_, taken := fun _ _ _ => trivial, landed := fun _ _ => trivial }
    constructor <;> intros <;> trivial
  exact fun overran => scan_meets always.toSteady (keeps_kickInDispatch always) trivial overran

/-- No dispatch meets the bound of the loop (R220). -/
theorem dispatch_in_bound (e : EventKind) (s : State) : dispatch e s ≠ .overrun := dispatch_ne_overrun scan_ne_overrun e s

theorem Meets.of_ne_overrun {f : Flow} (meets : Meets P True f) (bounded : f ≠ .overrun) : Meets P stuck f := by
  cases f with
  | go t => exact meets
  | ended t => exact meets
  | overrun => exact absurd rfl bounded

section
variable (steady : Steady P) (hk : Keeps P False kickInDispatch)
include steady hk

theorem keeps_dispatch (e : EventKind) : Keeps P stuck (dispatch e) := by
  intro s holds
  refine Meets.of_ne_overrun ?_ (dispatch_in_bound e s)
  simp only [dispatch]
  split
  · exact holds
  · split
    · exact holds_disp steady holds _
    · exact dispatchLoop_meets steady hk (holds_disp steady holds _)

theorem keeps_onReceive (b : List Byte) : Keeps P stuck (onReceive b) := by
  intro s holds
  have heard := holds_heard steady holds b
  simp only [onReceive]
  split
  · exact holds
  · split
    · exact keeps_dispatch steady hk _ _ (steady.received heard)
    · exact heard

/-- Frames received one after the other. -/
theorem keeps_receptions (frames : List (List Byte)) : Keeps P stuck (runActions (frames.map onReceive)) :=
  keeps_runActions fun a mem => by
    obtain ⟨b, -, rfl⟩ := List.mem_map.mp mem
    exact keeps_onReceive steady hk b

end

end

/-! ### The transmitter outside a dispatch -/

/-- What is in flight stays so until it lands. -/
theorem steady_inflight (item : TxItem) : Steady fun s => s.tx.inflight = some item where
  plain flying _ := flying
  received flying := flying
  link flying _ := flying
  started flying := flying
  stopped flying := flying
  expired flying := flying
  counted flying _ := flying
  noted _ flying := (ledger_eq_iff.mp (notify_ledger _ _)).2.2.1.trans flying
  control {s _ _} flying sent := by
    cases cons : s.pool.free with
    | nil =>
      simp only [sendControl, alloc_nil _ cons] at sent
      cases sent
    | cons h rest =>
      rw [sendControl_cons _ _ cons] at sent
      cases sent
      exact flying
  newData {s _} flying sent := by
    cases cons : s.pool.transmit with
    | nil =>
      simp only [sendNewData, cons] at sent
      cases sent
      exact flying
    | cons h rest =>
      obtain ⟨_, _, moves, -⟩ := sendNewData_moves Flow.go cons
      cases moves.symm.trans sent
      exact flying
  maint {s _} flying sent := by
    cases cons : s.pool.transmit with
    | nil =>
      simp only [sendMaintMessage, cons] at sent
      cases sent
      exact flying
    | cons h rest =>
      obtain ⟨_, _, moves, -⟩ := sendMaintMessage_moves Flow.go cons
      cases moves.symm.trans sent
      exact flying
  resent flying _ _ := flying
  requeued {s} flying := by
    obtain ⟨p, same⟩ := poolOnly_requeueAckWait s
    rwa [same]
  cleared {s} flying := by
    obtain ⟨p, same, -⟩ := resetVariables_free s
    rwa [same]
  acked {s resp} flying := by
    obtain ⟨p, same⟩ := poolOnly_completeLoop resp s.pool.ackWait.length s
    rwa [completeAcked, same]
  delivered {s h rest p c} flying _ := by
    obtain ⟨q, same⟩ := deliver_eq s h rest p c
    rwa [same]

theorem keeps_inflight_kickInDispatch (item : TxItem) : Keeps (fun s => s.tx.inflight = some item) False kickInDispatch := by
  intro s flying
  rw [kickInDispatch_busy (by rw [flying]; nofun)]
  exact flying

section
variable {P : State → Prop} (stable : Stable P)
include stable

theorem kickIdle_meets : ∀ {n : Nat} {s : State}, P s → Meets P True (kickIdle n s)
  | 0, _, _ => trivial
  | n + 1, s, holds => by
    have inside := keeps_kickInDispatch (stuck := False) stable
    have landed : ∀ {item : TxItem} {t : State}, P t → t.tx.inflight = some item →
        Meets P True ((dispatch .transmitDone (landFlight item t)).andThen (kickIdle n)) := fun holds flying =>
      (keeps_dispatch stable.toSteady inside _ _ (stable.landed holds flying)).andThen fun _ => kickIdle_meets
    simp only [kickIdle]
    split
    next => exact holds
    next idle =>
      split
      next => exact holds
      next item rest cons =>
        have sent := holds_takeFlight stable holds (Option.not_isSome_iff_eq_none.mp idle) cons
        split
        next => exact holds_offerFrame stable.toSteady holds _
        next => exact sent
        next => exact landed sent rfl
        next frames completes _ =>
          have heard := keeps_receptions (stuck := True) stable.toSteady inside frames _ sent
          have still := keeps_receptions (stuck := True) (steady_inflight item) (keeps_inflight_kickInDispatch item) frames
            (takeFlight item rest (offerFrame item.bytes s).2) rfl
          cases went : runActions (frames.map onReceive) (takeFlight item rest (offerFrame item.bytes s).2) with
          | overrun => trivial
          | ended t =>
            rw [went] at heard
            exact heard
          | go t =>
            rw [went] at heard still
            simp only [Flow.andThen]
            split
            · exact landed heard still
            · exact heard

theorem keeps_txKick : Keeps P True txKick := by
  intro s holds
  unfold txKick
  split
  · exact keeps_kickInDispatch stable s holds
  · exact kickIdle_meets stable holds

theorem keeps_transmitComplete : Keeps P True transmitComplete := by
  intro s holds
  unfold transmitComplete
  split
  next => exact holds
  next item flying =>
    exact (keeps_dispatch stable.toSteady (keeps_kickInDispatch stable) _ _ (stable.landed holds flying)).andThen
      fun t => keeps_txKick stable t

theorem keeps_tickTimer : Keeps P True tickTimer := by
  intro s holds
  unfold tickTimer
  split
  · split
    next => exact keeps_dispatch stable.toSteady (keeps_kickInDispatch stable) _ _ (stable.expired holds)
    next more => exact stable.counted holds more
  · exact holds

theorem keeps_tick : Keeps P True tick := by
  intro s holds
  unfold tick
  split
  · exact holds
  · exact (keeps_txKick stable s holds).andThen fun t => keeps_tickTimer stable t

end

end Sys2Proof.Proofs.Walk

/-! SUPPORT. Single ownership (44_queues.md R182): each handle has one owner, of its kind, and the event records coalesce
(R181). What an owned state has room for (R183), and that every shared operation keeps each handle owned once. -/

namespace Sys2Proof.Proofs.Ownership

open Sys2Proof.Machine Sys2Proof.Laws Sys2Proof.Proofs.Actions Sys2Proof.Proofs.Interfaces Sys2Proof.Proofs.Kicks
  Sys2Proof.Proofs.PoolWrites Sys2Proof.Proofs.Walk

/-! ### Ownership in one condition for each kind of owner -/

/-- The transmit items, staged or in flight. -/
def items (s : State) : List TxItem := s.tx.fifo ++ s.tx.inflight.toList

/-- Each owner that asks for a kind, with the kind it asks for (R47 to R49, R182). -/
def claims (s : State) : List (Handle × BufferKind) :=
  s.pool.receive.map (·, .receive) ++ s.pool.transmit.map (·, .transmitData) ++ s.pool.ackWait.map (·, .transmitData) ++
    ((items s).filterMap (·.desc)).map (·, .transmitControl)

/-- The buffers that wait in `completion`. -/
def handedBuffers (s : State) : List Handle := s.pool.completion.filterMap (·.buffer)

section
variable {s t : State}

theorem claims_kind (owned : Owned s) : ∀ c ∈ claims s, (descOf s c.1).kind = c.2 := by
  obtain ⟨-, -, -, control, receive, transmit, ackWait, -, -⟩ := owned
  simp only [claims, List.mem_append, List.mem_map, List.mem_filterMap]
  rintro c (((⟨h, mem, rfl⟩ | ⟨h, mem, rfl⟩) | ⟨h, mem, rfl⟩) | ⟨h, ⟨i, mem, owns⟩, rfl⟩)
  · exact receive h mem
  · exact transmit h mem
  · exact ackWait h mem
  · exact control i mem h owns

theorem owned_of_claims (table : s.pool.desc.length = s.cfg.window) (once : (holders s).Perm (List.range s.cfg.window))
    (owners : ∀ i ∈ items s, i.desc.isSome = true ↔ i.kind = .control)
    (kinds : ∀ c ∈ claims s, (descOf s c.1).kind = c.2) (eventsOnce : (eventCodes s).Nodup)
    (eventsCoded : ∀ c ∈ eventCodes s, c.isEvent = true) : Owned s := by
  simp only [claims, List.mem_append, List.mem_map, List.mem_filterMap] at kinds
  exact {
    table, once, items := owners, eventsOnce, eventsCoded
    controlKind := fun i mem h owns => kinds (h, .transmitControl) (.inr ⟨h, ⟨i, mem, owns⟩, rfl⟩)
    receiveKind := fun h mem => kinds (h, .receive) (.inl (.inl (.inl ⟨h, mem, rfl⟩)))
    transmitKind := fun h mem => kinds (h, .transmitData) (.inl (.inl (.inr ⟨h, mem, rfl⟩)))
    ackWaitKind := fun h mem => kinds (h, .transmitData) (.inl (.inr ⟨h, mem, rfl⟩)) }

/-! ### Descriptors written -/

/-- The table keeps its size, and every descriptor its kind. -/
def SameKinds (d d' : List Descriptor) : Prop :=
  d'.length = d.length ∧ ∀ h, (d'.getD h resetDescriptor).kind = (d.getD h resetDescriptor).kind

theorem SameKinds.refl (d : List Descriptor) : SameKinds d d := ⟨rfl, fun _ => rfl⟩

theorem sameKinds_touch (hs : List Handle) {f : Descriptor → Descriptor} (keeps : ∀ d, (f d).kind = d.kind)
    (d : List Descriptor) : SameKinds d (touch hs f d) := by
  refine ⟨touch_length hs f d, fun h => ?_⟩
  rw [touch_getD]
  split
  · exact keeps _
  · rfl

theorem sameKinds_modify (h : Handle) {f : Descriptor → Descriptor} (keeps : ∀ d, (f d).kind = d.kind)
    (d : List Descriptor) : SameKinds d (d.modify h f) := touch_singleton h f d ▸ sameKinds_touch [h] keeps d

/-- Handles that change hands, each still with one owner of its kind. -/
theorem owned_of_moves (owned : Owned s) (cfg : t.cfg = s.cfg) (kinds : SameKinds s.pool.desc t.pool.desc)
    (perm : (holders t).Perm (holders s)) (owners : ∀ i ∈ items t, i ∈ items s ∨ i.desc = none ∧ i.kind ≠ .control)
    (claimed : ∀ c ∈ claims t, c ∈ claims s) (once : (eventCodes t).Nodup)
    (coded : ∀ c ∈ eventCodes t, c.isEvent = true) : Owned t := by
  obtain ⟨table, kinds⟩ := kinds
  refine owned_of_claims (by rw [table, cfg, owned.table]) (cfg ▸ perm.trans owned.once) (fun i mem => ?_) (fun c mem => ?_)
    once coded
  · rcases owners i mem with old | ⟨none, other⟩
    · exact owned.items i old
    · simp [none, other]
  · exact (kinds c.1).trans (claims_kind owned c (claimed c mem))

/-! ### What an owned state has room for (R183) -/

theorem completion_length (l : List Completion) :
    l.length = (l.filterMap (·.buffer)).length + ((l.filter (·.buffer.isNone)).map (·.code)).length := by
  induction l with
  | nil => rfl
  | cons r l ih => cases owns : r.buffer <;> simp [owns, ih] <;> omega

theorem completion_length_eq (s : State) : s.pool.completion.length = (handedBuffers s).length + (eventCodes s).length :=
  completion_length _

/-- There are four event codes (R352). -/
theorem events_le {l : List EventCode} (once : l.Nodup) (coded : ∀ c ∈ l, c.isEvent = true) : l.length ≤ 4 := by
  have all : l ⊆ [.disconnect, .startReceived, .maintenanceReceived, .fatal] := by
    intro c mem
    have event := coded c mem
    cases c <;> simp_all [EventCode.isEvent]
  exact (once.subperm all).length_le

/-- Every handle is counted once among the owners. -/
theorem holders_length (owned : Owned s) :
    s.pool.free.length + s.pool.receive.length + s.pool.transmit.length + s.pool.ackWait.length + (handedBuffers s).length +
      (s.tx.fifo.filterMap (·.desc)).length + (s.tx.inflight.toList.filterMap (·.desc)).length = s.cfg.window := by
  have all := owned.once.length_eq
  simpa only [holders, handedBuffers, List.length_append, List.length_range] using all

/-- Fewer buffers wait in `completion` than there are handles held elsewhere, and four event records at most. -/
theorem completion_le (owned : Owned s) : s.pool.completion.length ≤ (handedBuffers s).length + 4 := by
  have := completion_length_eq s
  have := events_le owned.eventsOnce owned.eventsCoded
  omega

theorem buffers_lt (owned : Owned s) {h : Handle} (listed : h < s.cfg.window) (other : h ∉ handedBuffers s) :
    (handedBuffers s).length < s.cfg.window := by
  have nodup : (holders s).Nodup := owned.once.nodup_iff.mpr List.nodup_range
  have sub : (handedBuffers s).Sublist (holders s) := by
    simp only [holders, List.append_assoc]
    exact List.Sublist.trans (List.sublist_append_left _ _) ((List.sublist_append_right _ _).trans
      ((List.sublist_append_right _ _).trans ((List.sublist_append_right _ _).trans (List.sublist_append_right _ _))))
  have distinct : (h :: handedBuffers s).Nodup := List.nodup_cons.mpr ⟨other, nodup.sublist sub⟩
  have within : h :: handedBuffers s ⊆ List.range s.cfg.window := by
    intro x mem
    rcases List.mem_cons.mp mem with rfl | mem
    · exact List.mem_range.mpr listed
    · exact owned.once.subset (sub.subset mem)
  have le := (distinct.subperm within).length_le
  simpa using le

/-- Settles O59: the owners are counted, and so are the event codes. -/
theorem ownedQueuesFitTheirCapacities : Obligations.OwnedQueuesFitTheirCapacities := by
  intro s owned
  have all := holders_length owned
  have records := completion_le owned
  refine ⟨by omega, by omega, by omega, by omega, by omega, by omega, ?_⟩
  rintro ⟨h, listed, absent⟩
  have fewer := buffers_lt owned listed fun mem => by
    obtain ⟨r, inside, owns⟩ := List.mem_filterMap.mp mem
    exact absent (List.mem_map.mpr ⟨r, inside, owns⟩)
  omega

/-! ### What each shared operation does to the owners -/

@[simp] theorem eventCodes_handedOver (l : List Handle) (len : Descriptor → BitVec 14) (code : EventCode) (p : Pool) :
    ((handedOver l len code p).completion.filter (·.buffer.isNone)).map (·.code) =
      (p.completion.filter (·.buffer.isNone)).map (·.code) := by
  simp [handedOver, List.filter_append, List.filter_map]

@[simp] theorem buffers_handedOver (l : List Handle) (len : Descriptor → BitVec 14) (code : EventCode) (p : Pool) :
    (handedOver l len code p).completion.filterMap (·.buffer) = p.completion.filterMap (·.buffer) ++ l := by
  simp [handedOver, List.filterMap_append, List.filterMap_map]

theorem sameKinds_handedOver (l : List Handle) (len : Descriptor → BitVec 14) (code : EventCode) (p : Pool) :
    SameKinds p.desc (handedOver l len code p).desc := sameKinds_touch l (f := handedBack len code) (fun _ => rfl) _

theorem owned_notify (owned : Owned s) {c : EventCode} (event : c.isEvent = true) : Owned (notify c s) := by
  unfold notify
  split
  next => exact owned
  next fresh =>
    have fresh : c ∉ eventCodes s := by
      simp only [List.any_eq_true, Bool.and_eq_true, beq_iff_eq, not_exists, not_and] at fresh
      simp only [eventCodes, List.mem_map, List.mem_filter, Option.isNone_iff_eq_none, not_exists, not_and, and_imp]
      exact fresh
    have once : (c :: eventCodes s).Nodup := List.nodup_cons.mpr ⟨fresh, owned.eventsOnce⟩
    have coded : ∀ e ∈ c :: eventCodes s, e.isEvent = true := List.forall_mem_cons.mpr ⟨event, owned.eventsCoded⟩
    have room : s.pool.completion.length ≠ s.cfg.window + 4 := by
      have := completion_length_eq s
      have := holders_length owned
      have := events_le once coded
      simp only [List.length_cons] at this
      omega
    rw [enqueue_record_room _ room]
    have codes : eventCodes { s with pool.completion := s.pool.completion ++
        [{ buffer := none, actualLength := 0, code := c }] } = eventCodes s ++ [c] := by simp [eventCodes]
    refine owned_of_moves owned rfl (.refl _) (by simp [holders]) (fun i mem => .inl mem) (fun _ mem => mem) ?_ ?_
    · rw [codes]
      exact (List.perm_append_singleton c (eventCodes s)).nodup_iff.mpr once
    · rw [codes]
      exact fun e mem => coded e ((List.perm_append_singleton c (eventCodes s)).subset mem)

/-- The completions that only hand buffers over leave the event records. -/
theorem owned_of_handed (owned : Owned s) (cfg : t.cfg = s.cfg) (kinds : SameKinds s.pool.desc t.pool.desc)
    (perm : (holders t).Perm (holders s)) (owners : ∀ i ∈ items t, i ∈ items s ∨ i.desc = none ∧ i.kind ≠ .control)
    (claimed : ∀ c ∈ claims t, c ∈ claims s) (events : eventCodes t = eventCodes s) : Owned t :=
  owned_of_moves owned cfg kinds perm owners claimed (events ▸ owned.eventsOnce) (events ▸ owned.eventsCoded)

theorem owned_requeueAckWait (owned : Owned s) : Owned (requeueAckWait s) := by
  have all := holders_length owned
  rw [requeueAckWait_room (by omega)]
  refine owned_of_handed owned rfl (sameKinds_touch _ (f := unnumbered) (fun _ => rfl) _) ?_ (fun i mem => .inl mem) ?_ rfl
  · rw [List.perm_iff_count]
    intro a
    simp only [holders, requeued, List.count_append, List.count_nil]
    omega
  · intro c
    simp only [claims, requeued, List.mem_append, List.map_append, List.map_nil, List.not_mem_nil]
    tauto

/-- What no owner of a descriptor reads. -/
theorem owned_of_same (owned : Owned s) (cfg : t.cfg = s.cfg) (pool : t.pool = s.pool) (fifo : t.tx.fifo = s.tx.fifo)
    (inflight : t.tx.inflight = s.tx.inflight) : Owned t := by
  have staged : items t = items s := by simp only [items, fifo, inflight]
  refine owned_of_handed owned cfg (by rw [pool]; exact .refl _) ?_ (fun i mem => .inl (staged ▸ mem)) (fun c mem => ?_) ?_
  · rw [holders, pool, fifo, inflight, ← holders]
  · rwa [claims, staged, pool, ← claims] at mem
  · rw [eventCodes, pool, ← eventCodes]

theorem owned_resetVariables (owned : Owned s) : Owned (resetVariables s) := by
  have all := holders_length owned
  rw [resetVariables_room (by omega) (by omega)]
  refine owned_of_handed owned rfl (sameKinds_touch _ (f := unnumbered) (fun _ => rfl) _) ?_ (fun i mem => .inl ?_) ?_ rfl
  · rw [List.perm_iff_count]
    intro a
    simp only [holders, variablesReset, requeued, List.count_append, List.count_nil, List.filterMap_nil]
    omega
  · exact List.mem_append_right _ mem
  · intro c
    simp only [claims, items, variablesReset, requeued, List.mem_append, List.map_append, List.map_nil, List.not_mem_nil,
      List.filterMap_append, List.nil_append]
    tauto

theorem owned_completeAcked (owned : Owned s) (resp : Byte) : Owned (completeAcked resp s) := by
  have all := holders_length owned
  have records := completion_le owned
  rw [completeAcked_room resp (by omega)]
  have whole := List.takeWhile_append_dropWhile (p := isAcked s.cfg.window s.pool resp) (l := s.pool.ackWait)
  refine owned_of_handed owned rfl (sameKinds_handedOver _ _ _ _) ?_ (fun i mem => .inl mem) (fun c mem => ?_)
    (eventCodes_handedOver _ _ _ _)
  · rw [List.perm_iff_count]
    intro a
    have parts := congrArg (List.count a) whole
    simp only [holders, acknowledged, buffers_handedOver, List.count_append] at parts ⊢
    simp only [handedOver]
    omega
  · have left : ∀ h ∈ s.pool.ackWait.dropWhile (isAcked s.cfg.window s.pool resp), h ∈ s.pool.ackWait :=
      fun h mem => (List.dropWhile_sublist _).subset mem
    simp only [claims, items, acknowledged, handedOver, List.mem_append, List.mem_map] at mem ⊢
    rcases mem with ((receive | transmit) | ⟨h, waits, rfl⟩) | control
    · exact .inl (.inl (.inl receive))
    · exact .inl (.inl (.inr transmit))
    · exact .inl (.inr ⟨h, left h waits, rfl⟩)
    · exact .inr control

theorem owned_deliver (owned : Owned s) {h : Handle} {rest : List Handle} (cons : s.pool.receive = h :: rest) (p : Packet)
    (c : EventCode) : Owned (deliver h rest p c s) := by
  have all := holders_length owned
  have records := completion_le owned
  rw [cons, List.length_cons] at all
  rw [deliver_room h rest p c (by omega)]
  refine owned_of_handed owned rfl (sameKinds_handedOver _ _ _ _) ?_ (fun i mem => .inl mem) ?_ (eventCodes_handedOver _ _ _ _)
  · rw [List.perm_iff_count]
    intro a
    simp only [holders, delivered, buffers_handedOver, cons, List.count_append]
    simp only [handedOver, List.count_cons, List.count_nil]
    omega
  · intro c
    simp only [claims, items, delivered, handedOver, cons, List.mem_append, List.map_cons, List.mem_cons]
    tauto

/-- Every receive buffer goes back to the host (R305). -/
theorem owned_killReceive (owned : Owned s) (c : EventCode) :
    Owned (killAll c s.pool.receive { s with pool.receive := [] }) := by
  have all := holders_length owned
  have records := completion_le owned
  rw [killAll_room c s.pool.receive { s with pool.receive := [] } (by change s.pool.completion.length + _ ≤ s.cfg.window + 4; omega)]
  refine owned_of_handed owned rfl (sameKinds_handedOver _ _ _ _) ?_ (fun i mem => .inl mem) ?_ (eventCodes_handedOver _ _ _ _)
  · rw [List.perm_iff_count]
    intro a
    simp only [holders, buffers_handedOver, List.count_append]
    simp only [handedOver, List.count_nil]
    omega
  · intro c
    simp only [claims, items, handedOver, List.mem_append, List.map_nil, List.not_mem_nil]
    tauto

/-- So does every transmit buffer (R306). -/
theorem owned_killTransmit (owned : Owned s) (c : EventCode) :
    Owned (killAll c (s.pool.ackWait ++ s.pool.transmit) { s with pool.ackWait := [], pool.transmit := [] }) := by
  have all := holders_length owned
  have records := completion_le owned
  rw [killAll_room c _ { s with pool.ackWait := [], pool.transmit := [] }
    (by change s.pool.completion.length + _ ≤ s.cfg.window + 4; rw [List.length_append]; omega)]
  refine owned_of_handed owned rfl (sameKinds_handedOver _ _ _ _) ?_ (fun i mem => .inl mem) ?_ (eventCodes_handedOver _ _ _ _)
  · rw [List.perm_iff_count]
    intro a
    simp only [holders, buffers_handedOver, List.count_append]
    simp only [handedOver, List.count_nil]
    omega
  · intro c
    simp only [claims, items, handedOver, List.mem_append, List.map_nil, List.not_mem_nil]
    tauto

/-! ### The frames -/

theorem owned_stagedData (owned : Owned s) {h : Handle} {rest : List Handle} (cons : s.pool.transmit = h :: rest) :
    Owned (stagedData h rest s) := by
  refine owned_of_handed owned rfl (sameKinds_modify h (f := fun d => { d with seq := s.link.n + 1 }) (fun _ => rfl) _) ?_
    (fun i mem => ?_) ?_ rfl
  · rw [List.perm_iff_count]
    intro a
    simp only [holders, stagedData, cons, List.count_append, List.filterMap_append, List.count_cons, List.count_nil,
      List.filterMap_cons, List.filterMap_nil]
    omega
  · simp only [items, stagedData, List.append_assoc, List.mem_append, List.mem_singleton] at mem ⊢
    rcases mem with staged | rfl | flying
    · exact .inl (.inl staged)
    · exact .inr ⟨rfl, by simp⟩
    · exact .inl (.inr flying)
  · intro c
    simp only [claims, items, stagedData, cons, List.mem_append, List.map_cons, List.map_append, List.mem_cons,
      List.filterMap_append, List.filterMap_cons, List.filterMap_nil, List.map_nil, List.not_mem_nil]
    tauto

theorem owned_stagedMaint (owned : Owned s) {h : Handle} {rest : List Handle} (cons : s.pool.transmit = h :: rest) :
    Owned (stagedMaint h rest s) := by
  refine owned_of_handed owned rfl (sameKinds_handedOver _ _ _ _) ?_ (fun i mem => ?_) ?_ (eventCodes_handedOver _ _ _ _)
  · rw [List.perm_iff_count]
    intro a
    simp only [holders, stagedMaint, buffers_handedOver, cons, List.count_append, List.filterMap_append]
    simp only [handedOver, List.count_cons, List.count_nil, List.filterMap_cons, List.filterMap_nil]
    omega
  · simp only [items, stagedMaint, List.append_assoc, List.mem_append, List.mem_singleton] at mem ⊢
    rcases mem with staged | rfl | flying
    · exact .inl (.inl staged)
    · exact .inr ⟨rfl, by simp⟩
    · exact .inl (.inr flying)
  · intro c
    simp only [claims, items, stagedMaint, handedOver, cons, List.mem_append, List.map_cons, List.map_append, List.mem_cons,
      List.filterMap_append, List.filterMap_cons, List.filterMap_nil, List.map_nil, List.not_mem_nil]
    tauto

/-- A frame that owns no descriptor. -/
theorem owned_staged (owned : Owned s) {i : TxItem} (none : i.desc = none) (other : i.kind ≠ .control) :
    Owned { s with tx.fifo := s.tx.fifo ++ [i] } := by
  refine owned_of_handed owned rfl (.refl _) ?_ (fun j mem => ?_) ?_ rfl
  · simp only [holders, List.filterMap_append, List.filterMap_cons, none, List.filterMap_nil, List.append_nil]
    exact .refl _
  · simp only [items, List.append_assoc, List.mem_append, List.mem_singleton] at mem ⊢
    rcases mem with staged | rfl | flying
    · exact .inl (.inl staged)
    · exact .inr ⟨none, other⟩
    · exact .inl (.inr flying)
  · intro c
    simp only [claims, items, List.filterMap_append, List.filterMap_cons, none, List.filterMap_nil, List.append_nil]
    exact id

theorem owned_takeFlight (owned : Owned s) {i : TxItem} {rest : List TxItem} (idle : s.tx.inflight = none)
    (cons : s.tx.fifo = i :: rest) : Owned (takeFlight i rest s) := by
  have same : ∀ j, j ∈ items (takeFlight i rest s) ↔ j ∈ items s := by
    intro j
    simp only [items, takeFlight, idle, cons, Option.toList_none, Option.toList_some, List.mem_append, List.mem_cons,
      List.not_mem_nil]
    tauto
  refine owned_of_handed owned rfl (.refl _) ?_ (fun j mem => .inl ((same j).mp mem)) ?_ rfl
  · rw [List.perm_iff_count]
    intro a
    cases owns : i.desc <;>
      simp only [holders, takeFlight, idle, cons, owns, Option.toList_none, Option.toList_some, List.count_append,
        List.filterMap_cons, List.filterMap_nil, List.count_cons, List.count_nil]
    all_goals omega
  · intro c
    simp only [claims, List.mem_append, List.mem_map, List.mem_filterMap, same]
    exact id

theorem owned_landFlight (owned : Owned s) {i : TxItem} (flying : s.tx.inflight = some i) : Owned (landFlight i s) := by
  have all := holders_length owned
  rw [flying] at all
  rw [landFlight_room fun owns => by
    obtain ⟨h, is⟩ := Option.ne_none_iff_exists'.mp owns
    simp only [Option.toList_some, List.filterMap_cons, is, List.filterMap_nil, List.length_singleton] at all
    omega]
  refine owned_of_handed owned rfl (.refl _) ?_ (fun j mem => .inl ?_) ?_ rfl
  · rw [List.perm_iff_count]
    intro a
    cases owns : i.desc <;>
      simp only [holders, flying, owns, Option.toList_none, Option.toList_some, List.count_append, List.filterMap_cons,
        List.filterMap_nil, List.count_cons, List.count_nil]
    all_goals omega
  · simp only [items, Option.toList_none, List.append_nil] at mem ⊢
    exact List.mem_append_left _ mem
  · intro c
    simp only [claims, items, List.mem_append, List.filterMap_append, List.map_append, Option.toList_none, List.filterMap_nil,
      List.map_nil, List.not_mem_nil]
    tauto

/-! ### A descriptor taken from `free` (R177) -/

/-- A handle of `free` is claimed by no owner that asks for a kind. -/
theorem claims_ne_free (owned : Owned s) {h : Handle} (free : h ∈ s.pool.free) : ∀ c ∈ claims s, c.1 ≠ h := by
  have nodup : (holders s).Nodup := owned.once.nodup_iff.mpr List.nodup_range
  simp only [holders, List.append_assoc] at nodup
  have apart := (List.nodup_append.mp nodup).2.2 h free
  rintro c mem rfl
  refine apart c.1 ?_ rfl
  simp only [claims, items, List.filterMap_append, List.mem_append, List.mem_map] at mem
  simp only [List.mem_append]
  rcases mem with ((⟨x, mem, rfl⟩ | ⟨x, mem, rfl⟩) | ⟨x, mem, rfl⟩) | ⟨x, mem, rfl⟩
  · exact .inl mem
  · exact .inr (.inl mem)
  · exact .inr (.inr (.inl mem))
  · exact .inr (.inr (.inr (.inr mem)))

/-- The head of `free` goes to an owner of the kind that it is given. -/
theorem owned_of_alloc (owned : Owned s) {h : Handle} {rest : List Handle} (cons : s.pool.free = h :: rest)
    {f : Descriptor → Descriptor} (cfg : t.cfg = s.cfg) (desc : t.pool.desc = s.pool.desc.modify h f) {k : BufferKind}
    (given : ∀ d, (f d).kind = k) (perm : (holders t).Perm (holders s))
    (owners : ∀ i ∈ items t, i.desc.isSome = true ↔ i.kind = .control) (claimed : ∀ c ∈ claims t, c = (h, k) ∨ c ∈ claims s)
    (events : eventCodes t = eventCodes s) : Owned t := by
  have size : t.pool.desc.length = s.pool.desc.length := by rw [desc, List.length_modify]
  have listed : h < s.pool.desc.length := by
    rw [owned.table]
    exact List.mem_range.mp (owned.once.subset (by simp [holders, cons]))
  have written : ∀ x, descOf t x = if x = h then f (descOf s h) else descOf s x := by
    intro x
    rw [descOf, desc, ← touch_singleton, touch_getD]
    split
    next is => simp_all [descOf]
    next other =>
      have apart : x ≠ h := by
        rintro rfl
        exact other ⟨listed, List.mem_singleton_self _⟩
      rw [if_neg apart]
      rfl
  refine owned_of_claims (by rw [size, cfg, owned.table]) (cfg ▸ perm.trans owned.once) owners (fun c mem => ?_)
    (events ▸ owned.eventsOnce) (events ▸ owned.eventsCoded)
  rw [written]
  rcases claimed c mem with rfl | old
  · rw [if_pos rfl, given]
  · rw [if_neg (claims_ne_free owned (by simp [cons]) c old), claims_kind owned c old]

theorem owned_stagedControl (owned : Owned s) {h : Handle} {rest : List Handle} (cons : s.pool.free = h :: rest)
    (b : List Byte) : Owned (stagedControl b h rest s) := by
  refine owned_of_alloc owned cons rfl rfl (k := .transmitControl) (fun _ => rfl) ?_ (fun i mem => ?_) ?_ rfl
  · rw [List.perm_iff_count]
    intro a
    simp only [holders, stagedControl, controlItem, cons, List.count_append, List.filterMap_append, List.count_cons,
      List.count_nil, List.filterMap_cons, List.filterMap_nil]
    omega
  · simp only [items, stagedControl, List.append_assoc, List.mem_append, List.mem_singleton] at mem
    rcases mem with staged | rfl | flying
    · exact owned.items i (List.mem_append_left _ staged)
    · simp [controlItem]
    · exact owned.items i (List.mem_append_right _ flying)
  · intro c
    simp only [claims, items, stagedControl, controlItem, List.mem_append, List.map_cons, List.map_append, List.mem_cons,
      List.filterMap_append, List.filterMap_cons, List.filterMap_nil, List.map_nil, List.not_mem_nil]
    tauto

/-- A receive buffer that the host hands over (R301). -/
theorem owned_handedIn_receive (owned : Owned s) {h : Handle} {rest : List Handle} (cons : s.pool.free = h :: rest)
    (address length : Nat) (eom : Bool) : Owned (handedIn .receive (described .receive address length eom) h rest s) := by
  refine owned_of_alloc owned cons rfl rfl (k := .receive) (fun _ => rfl) ?_ owned.items ?_ rfl
  · rw [List.perm_iff_count]
    intro a
    simp only [holders, handedIn, setHandles, handles, cons, List.count_append, List.count_cons, List.count_nil]
    omega
  · intro c
    simp only [claims, items, handedIn, setHandles, handles, List.mem_append, List.map_append, List.map_cons, List.map_nil,
      List.mem_singleton]
    tauto

/-- A transmit buffer that the host hands over (R302). -/
theorem owned_handedIn_transmit (owned : Owned s) {h : Handle} {rest : List Handle} (cons : s.pool.free = h :: rest)
    (address length : Nat) (eom : Bool) : Owned (handedIn .transmit (described .transmitData address length eom) h rest s) := by
  refine owned_of_alloc owned cons rfl rfl (k := .transmitData) (fun _ => rfl) ?_ owned.items ?_ rfl
  · rw [List.perm_iff_count]
    intro a
    simp only [holders, handedIn, setHandles, handles, cons, List.count_append, List.count_cons, List.count_nil]
    omega
  · intro c
    simp only [claims, items, handedIn, setHandles, handles, List.mem_append, List.map_append, List.map_cons, List.map_nil,
      List.mem_singleton]
    tauto

/-- The host takes the oldest record, and its buffer's descriptor is free again (R309). -/
theorem owned_hostPickup (owned : Owned s) : Owned (hostPickup s) := by
  have all := holders_length owned
  cases cons : s.pool.completion with
  | nil =>
    rw [Steps.hostPickup_nil cons]
    exact owned_of_same owned rfl rfl rfl rfl
  | cons r rest =>
    have left : (rest.filter (·.buffer.isNone)).map (·.code) |>.Sublist (eventCodes s) := by
      rw [eventCodes, cons]
      exact ((List.sublist_cons_self r rest).filter _).map _
    cases owns : r.buffer with
    | none =>
      rw [Steps.hostPickup_event cons owns]
      refine owned_of_moves owned rfl (.refl _) ?_ (fun i mem => .inl mem) (fun c mem => mem)
        (owned.eventsOnce.sublist left) fun e mem => owned.eventsCoded e (left.subset mem)
      simp [holders, cons, owns]
    | some h =>
      have room : s.pool.free.length ≠ s.cfg.window := by
        simp only [handedBuffers, cons, List.filterMap_cons, owns, List.length_cons] at all
        omega
      rw [Steps.hostPickup_buffer cons owns room]
      refine owned_of_moves owned rfl (.refl _) ?_ (fun i mem => .inl mem) (fun c mem => mem)
        (owned.eventsOnce.sublist left) fun e mem => owned.eventsCoded e (left.subset mem)
      rw [List.perm_iff_count]
      intro a
      simp only [holders, cons, owns, List.count_append, List.filterMap_cons, List.count_cons, List.count_nil]
      omega

end

/-- Ownership, under the configuration as it was, is kept by every shared operation. -/
theorem stable_owned (c : Config) : Stable fun s => Owned s ∧ s.cfg = c where
  plain holds _ := ⟨owned_of_same holds.1 rfl rfl rfl rfl, holds.2⟩
  received holds := ⟨owned_of_same holds.1 rfl rfl rfl rfl, holds.2⟩
  link holds _ := ⟨owned_of_same holds.1 rfl rfl rfl rfl, holds.2⟩
  started holds := ⟨owned_of_same holds.1 rfl rfl rfl rfl, holds.2⟩
  stopped holds := ⟨owned_of_same holds.1 rfl rfl rfl rfl, holds.2⟩
  expired holds := ⟨owned_of_same holds.1 rfl rfl rfl rfl, holds.2⟩
  counted holds _ := ⟨owned_of_same holds.1 rfl rfl rfl rfl, holds.2⟩
  noted event holds := ⟨owned_notify holds.1 event, (ledger_eq_iff.mp (notify_ledger _ _)).1.trans holds.2⟩
  control {s t b} holds sent := by
    obtain ⟨owned, cfg⟩ := holds
    cases cons : s.pool.free with
    | nil =>
      simp only [sendControl, alloc_nil _ cons] at sent
      cases sent
    | cons h rest =>
      rw [sendControl_cons _ _ cons] at sent
      cases sent
      exact ⟨owned_stagedControl owned cons b, cfg⟩
  newData {s t} holds sent := by
    obtain ⟨owned, cfg⟩ := holds
    have all := holders_length owned
    cases cons : s.pool.transmit with
    | nil =>
      simp only [sendNewData, cons] at sent
      cases sent
      exact ⟨owned, cfg⟩
    | cons h rest =>
      rw [cons, List.length_cons] at all
      rw [sendNewData_cons _ cons (by omega)] at sent
      cases sent
      exact ⟨owned_stagedData owned cons, cfg⟩
  maint {s t} holds sent := by
    obtain ⟨owned, cfg⟩ := holds
    have all := holders_length owned
    have records := completion_le owned
    cases cons : s.pool.transmit with
    | nil =>
      simp only [sendMaintMessage, cons] at sent
      cases sent
      exact ⟨owned, cfg⟩
    | cons h rest =>
      rw [cons, List.length_cons] at all
      rw [sendMaintMessage_cons _ cons (by omega)] at sent
      cases sent
      exact ⟨owned_stagedMaint owned cons, cfg⟩
  resent holds none other := ⟨owned_staged holds.1 none other, holds.2⟩
  requeued {s} holds := by
    obtain ⟨p, only⟩ := poolOnly_requeueAckWait s
    exact ⟨owned_requeueAckWait holds.1, by rw [only]; exact holds.2⟩
  cleared {s} holds := by
    obtain ⟨p, only, -⟩ := resetVariables_free s
    exact ⟨owned_resetVariables holds.1, by rw [only]; exact holds.2⟩
  acked {s resp} holds := by
    obtain ⟨p, only⟩ := poolOnly_completeLoop resp s.pool.ackWait.length s
    exact ⟨owned_completeAcked holds.1 resp, by rw [completeAcked, only]; exact holds.2⟩
  delivered {s h rest p c} holds cons := by
    obtain ⟨q, only⟩ := deliver_eq s h rest p c
    exact ⟨owned_deliver holds.1 cons p c, by rw [only]; exact holds.2⟩
  taken holds idle cons := ⟨owned_takeFlight holds.1 idle cons, holds.2⟩
  landed {s i} holds flying := by
    obtain ⟨l, only, -⟩ := landFlight_free i s
    exact ⟨owned_landFlight holds.1 flying, by rw [only]; exact holds.2⟩

end Sys2Proof.Proofs.Ownership

/-! SUPPORT. No loop of the model meets its bound (R220; log 16): a dispatch in no state, and `tx_kick` in no state whose
queues are within their capacities, under a window in range; so no instruction does from a state whose handles are owned
once. -/

namespace Sys2Proof.Proofs.Bounds

open Sys2Proof.Machine Sys2Proof.Laws Sys2Proof.Proofs.Timer Sys2Proof.Proofs.Dispatch Sys2Proof.Proofs.Actions
  Sys2Proof.Proofs.Interfaces Sys2Proof.Proofs.Kicks Sys2Proof.Proofs.PoolWrites Sys2Proof.Proofs.Steps
  Sys2Proof.Proofs.Walk Sys2Proof.Proofs.Ownership

/-! ### Receptions and kicks -/

theorem andThen_in_bound {f : Flow} {g : State → Flow} (first : f ≠ .overrun) (second : ∀ t, f = .go t → g t ≠ .overrun) :
    f.andThen g ≠ .overrun := by
  cases f with
  | go t => exact second t rfl
  | ended t => nofun
  | overrun => exact absurd rfl first

theorem onReceive_in_bound (b : List Byte) (s : State) : onReceive b s ≠ .overrun := by
  simp only [onReceive]
  split
  · nofun
  · split
    · exact dispatch_in_bound _ _
    · nofun

theorem receptions_in_bound : ∀ (frames : List (List Byte)) (s : State), runActions (frames.map onReceive) s ≠ .overrun
  | [], _ => nofun
  | b :: frames, s => andThen_in_bound (onReceive_in_bound b s) fun t _ => receptions_in_bound frames t

/-- A loop of `tx_kick` whose bound exceeds the measure does not meet it. -/
theorem kickIdle_in_bound {k : Nat} : ∀ {n : Nat} {s : State}, Bounded k s → charge k s < n → kickIdle n s ≠ .overrun
  | 0, _, _, small => absurd small (Nat.not_lt_zero _)
  | n + 1, s, bounded, small => by
    have landed : ∀ {item : TxItem} {t : State}, Bounded k t → charge k t + 1 ≤ charge k s →
        (dispatch .transmitDone (landFlight item t)).andThen (kickIdle n) ≠ .overrun := by
      intro item t bounded less
      refine andThen_in_bound (dispatch_in_bound _ _) fun u went => ?_
      obtain ⟨bounded, charged⟩ := landed_charge bounded went
      exact kickIdle_in_bound bounded (by omega)
    simp only [kickIdle]
    split
    next => nofun
    next =>
      split
      next => nofun
      next item rest cons =>
        split
        next => nofun
        next => nofun
        next =>
          obtain ⟨bounded, less⟩ := offered_charge bounded cons
          exact landed bounded less
        next frames completes answer =>
          refine andThen_in_bound (receptions_in_bound frames _) fun t went => ?_
          obtain ⟨bounded, less⟩ := receptions_charge bounded cons answer went
          split
          · exact landed bounded less
          · nofun

theorem txKick_in_bound {k : Nat} {s : State} (bounded : Bounded k s) : txKick s ≠ .overrun := by
  obtain ⟨-, free_le, window_le⟩ := bounded
  unfold txKick
  split
  · nofun
  · exact kickIdle_in_bound ⟨le_rfl, free_le, window_le⟩ (charge_lt_budget s)

theorem transmitComplete_in_bound {k : Nat} {s : State} (bounded : Bounded k s) : transmitComplete s ≠ .overrun := by
  unfold transmitComplete
  split
  · nofun
  · exact andThen_in_bound (dispatch_in_bound _ _) fun t went => txKick_in_bound (landed_charge bounded went).1

theorem tickTimer_in_bound (s : State) : tickTimer s ≠ .overrun := by
  unfold tickTimer
  split
  · split
    · exact dispatch_in_bound _ _
    · nofun
  · nofun

/-! ### Every instruction -/

/-- An instruction that runs a flow which does not meet a bound. -/
theorem outcome_in_bound {f : Flow} (bounded : f ≠ .overrun) : f.outcome ≠ .fault .dispatchOverrun := by
  cases f with
  | go t => nofun
  | ended t => nofun
  | overrun => exact absurd rfl bounded

theorem unlessFatal_in_bound {f : State → Flow} {s : State} (bounded : f s ≠ .overrun) :
    (unlessFatal f s).outcome ≠ .fault .dispatchOverrun := by
  unfold unlessFatal
  split
  · nofun
  · exact outcome_in_bound bounded

theorem received_in_bound (b : List Byte) (s : State) : (onReceive b s).outcome ≠ .fault .dispatchOverrun :=
  outcome_in_bound (onReceive_in_bound b s)

theorem performed_in_bound {f : Flow} (bounded : f ≠ .overrun) : performed f ≠ .overrun :=
  andThen_in_bound bounded fun _ _ => nofun

theorem acceptBuffer_in_bound (k : BufferKind) (q : HandleQueue) (address length : Nat) (eom : Bool) (s : State) :
    acceptBuffer k q address length eom s ≠ .overrun := by
  unfold acceptBuffer
  split
  · nofun
  · exact andThen_in_bound (dispatch_in_bound _ _) fun _ _ => nofun

/-- A host's call that is refused, or runs. -/
theorem guarded_in_bound {p : Prop} [Decidable p] {s : State} {f : Flow} (bounded : f ≠ .overrun) :
    (if p then .go s else f).outcome ≠ .fault .dispatchOverrun := by
  split
  · nofun
  · exact outcome_in_bound bounded

/-- An instruction that answers no fault, or a handle's. -/
theorem handles_in_bound {p : Prop} [Decidable p] {o : Host.Outcome State Fault Refusal} (bounded : o ≠ .fault .dispatchOverrun) :
    (if p then o else .fault .noDescriptor) ≠ .fault .dispatchOverrun := by
  split
  · exact bounded
  · nofun

section
variable {s : State} (owned : Owned s) (range : s.cfg.InRange)
include owned range

omit owned in
/-- `tx_kick` as the actions call it, wherever they run. -/
theorem keeps_owned_txKick : Keeps (fun t => Owned t ∧ t.cfg = s.cfg) False txKick := fun _ holds =>
  (keeps_txKick (stable_owned s.cfg) _ holds).of_ne_overrun (txKick_in_bound (bounded_of_owned holds.1 (holds.2 ▸ range)))

omit range in
/-- An action of an instruction that keeps each handle owned. -/
theorem kept_in_bound {f : State → Flow} (keeps : Keeps (fun t => Owned t ∧ t.cfg = s.cfg) False f) :
    (unlessFatal f s).outcome ≠ .fault .dispatchOverrun :=
  unlessFatal_in_bound fun overran => by
    have meets := keeps s ⟨owned, rfl⟩
    rw [overran] at meets
    exact meets

theorem tryRule_in_bound {r : Rule} (mem : r ∈ ruleTable txKick) : (tryRule r s).outcome ≠ .fault .dispatchOverrun := by
  simp only [tryRule]
  split
  · refine outcome_in_bound fun overran => ?_
    have meets := keeps_fire (stable_owned s.cfg).toSteady (keeps_owned_txKick range) mem
      (scanPacket s.disp.curEvent s) (answer (.flag true) s) ⟨owned_of_same owned rfl rfl rfl rfl, rfl⟩
    rw [overran] at meets
    exact meets
  · nofun

end

/-- Settles O24: each instruction by the loops that it runs; the entries and the sending actions keep each handle owned, and
with it the bound of `tx_kick`. -/
theorem noInstructionOverruns : Obligations.NoInstructionOverruns := by
  intro i s owned range
  have steady := (stable_owned s.cfg).toSteady
  have kick := keeps_owned_txKick range
  have bounded := bounded_of_owned owned range
  cases i
  case data | maint | ack | nak | rep | strt | stack | onReceive => exact received_in_bound _ s
  case sendControl b => exact kept_in_bound owned (keeps_sendControl steady kick fun _ => b)
  case sendStrt => exact kept_in_bound owned (keeps_sendStrt steady kick)
  case sendStack => exact kept_in_bound owned (keeps_sendStack steady kick)
  case sendAck => exact kept_in_bound owned (keeps_sendAck steady kick)
  case sendNak => exact kept_in_bound owned (keeps_sendNak steady kick)
  case sendRep => exact kept_in_bound owned (keeps_sendRep steady kick)
  case nakMissing => exact kept_in_bound owned (keeps_nakMissing steady kick _)
  case sendNewData => exact kept_in_bound owned (keeps_sendNewData steady kick)
  case sendMaintMessage => exact kept_in_bound owned (keeps_sendMaintMessage steady kick)
  case retransmitT => exact kept_in_bound owned (keeps_retransmitT steady kick)
  case resetVariables => exact kept_in_bound owned (keeps_resetVariables steady)
  case txKick => exact unlessFatal_in_bound (txKick_in_bound bounded)
  case txSend item =>
    exact handles_in_bound (unlessFatal_in_bound (f := txSend txKick item)
      (txKick_in_bound (s := { s with tx.fifo := s.tx.fifo ++ [item] }) ⟨bounded.stock_le, bounded.free_le, bounded.window_le⟩))
  case transmitComplete => exact unlessFatal_in_bound (transmitComplete_in_bound bounded)
  case onTransmitComplete => exact guarded_in_bound (transmitComplete_in_bound bounded)
  case tick =>
    exact guarded_in_bound (andThen_in_bound (txKick_in_bound bounded) fun t _ => tickTimer_in_bound t)
  case onLineStatusChange => exact guarded_in_bound (dispatch_in_bound _ _)
  case dispatch => exact outcome_in_bound (dispatch_in_bound _ _)
  case assignReceiveBuffer => exact guarded_in_bound (acceptBuffer_in_bound _ _ _ _ _ _)
  case enqueueTransmitBuffer => exact guarded_in_bound (acceptBuffer_in_bound _ _ _ _ _ _)
  case killReceiveBuffers => exact guarded_in_bound (performed_in_bound (dispatch_in_bound _ _))
  case killTransmitBuffers => exact guarded_in_bound (performed_in_bound (dispatch_in_bound _ _))
  case setLineEnabled => exact guarded_in_bound (performed_in_bound nofun)
  case userStartup | userHalt | userMaintenance => exact guarded_in_bound (performed_in_bound (dispatch_in_bound _ _))
  case enqueue | pushFront | release => exact handles_in_bound nofun
  case alloc k =>
    change (match alloc k s with | some (h, s1) => _ | none => _) ≠ _
    split <;> nofun
  case inc f => cases f <;> nofun
  case dr00 | dr01 | dr02 | dr03 | dr04 | dr05 | dr06 | dr07 | dr08 | dr09 | dr10 | dr11 | dr12 | dr13 | dr14 | dr15 | dr16 |
      dr17 | dr18 | dr19 | dr20 | dr21 | dr22 | dr23 | dr24 | dr25 | dr26 | dr27 | dr28 =>
    exact tryRule_in_bound owned range (by simp [ruleTable])
  all_goals nofun

end Sys2Proof.Proofs.Bounds

/-! SUPPORT. What a step leaves of a dispatch: nothing. A dispatch that ends leaves the dispatcher at rest and the link
quiescent, or raises Fatal (46_dispatch_engine.md R216, R220); so does every call of the host, the transport and the tick
source. With the properties that every shared operation keeps, this gives the invariants of whole steps. -/

namespace Sys2Proof.Proofs.Invariants

open Sys2Proof.Machine Sys2Proof.Laws Sys2Proof.Proofs.Timer Sys2Proof.Proofs.Dispatch Sys2Proof.Proofs.FatalLatch
  Sys2Proof.Proofs.Actions Sys2Proof.Proofs.Rules Sys2Proof.Proofs.Interfaces Sys2Proof.Proofs.Kicks
  Sys2Proof.Proofs.PoolWrites Sys2Proof.Proofs.WhileFatal Sys2Proof.Proofs.Policy Sys2Proof.Proofs.Steps
  Sys2Proof.Proofs.Walk Sys2Proof.Proofs.Ownership Sys2Proof.Proofs.Bounds

/-! ### A dispatch that ends -/

section
variable {s t : State} {ev : Option EventKind}

/-- The entries that no event brings read no event: where none matches, the link is quiescent. -/
theorem quiescent_of_quiet {pkt : Option RxPkt} (quiet : ∀ r ∈ ruleTable kickInDispatch, r.applies ev pkt s = false) :
    Quiescent s := by
  refine quiescent_iff_entries.mpr ⟨fun r mem => ?_, ?_, ?_⟩
  · rw [← idleEntries_applies (ev := ev) (pkt := pkt) mem]
    exact quiet r (mem_ruleTable_iff.mpr (.inl mem))
  · have quiet := quiet dr09 (by simp [ruleTable])
    rw [← Bool.not_eq_true, dr09_applies] at quiet ⊢
    exact quiet
  · have quiet := quiet dr13 (by simp [ruleTable])
    rw [← Bool.not_eq_true, dr13_applies] at quiet ⊢
    exact quiet

/-- The loop goes on only past a scan that fires nothing while nothing is pending (R216). -/
theorem dispatchLoop_leaves : ∀ {n : Nat} {ev : Option EventKind} {s : State}, dispatchLoop n ev s = .go t →
    AtRest t ∧ Quiescent t
  | 0, _, _, went => nomatch went
  | n + 1, ev, s, went => by
    simp only [dispatchLoop] at went
    split at went
    next => cases went
    next => cases went
    next => split at went <;> exact dispatchLoop_leaves went
    next quiet =>
      split at went
      next => exact dispatchLoop_leaves went
      next empty =>
        cases went
        have nothing : s.disp.pending = noEvents := (pendingFirst_eq_none_iff _).mp empty
        refine ⟨leave_resting s _ nothing ▸ rfl, ?_⟩
        exact (quiescent_disp s _).mpr ((quiescent_disp s _).mp (quiescent_of_quiet ((scan_eq_none ev _).mp quiet)))

/-- What a dispatch past its guard comes to (R216, R220). -/
theorem dispatch_ends_quiet (live : s.latch.fatal = false) (idle : s.disp.scanning = false) (e : EventKind) :
    (∃ t, dispatch e s = .go t ∧ t.latch.fatal = false ∧ AtRest t ∧ Quiescent t) ∨
      ∃ t, dispatch e s = .ended t ∧ Raised t := by
  have follows := (keepsFatal_dispatch e).latchFollows live
  cases went : dispatch e s with
  | overrun => exact absurd went (dispatch_in_bound e s)
  | ended t =>
    rw [went] at follows
    exact .inr ⟨t, rfl, follows⟩
  | go t =>
    rw [went] at follows
    rw [dispatch_of_idle live idle] at went
    exact .inl ⟨t, rfl, follows, dispatchLoop_leaves went⟩

/-- What `raise Fatal` leaves (R346). -/
theorem raised_halts (raised : Raised t) :
    AtRest t ∧ t.link.state = .halt ∧ t.timer.running = false ∧ t.latch.fatal = true := by
  obtain ⟨cause, s, rfl⟩ := raised
  obtain ⟨fatal, link, timer, atRest, -⟩ := raiseFatal_halts cause s
  exact ⟨atRest, by rw [link], by rw [timer], fatal⟩

end

/-- Settles O23: the loop ends before its bound, past a quiet scan or by `raise Fatal`. -/
theorem dispatchCompletesQuiescent : Obligations.DispatchCompletesQuiescent := by
  intro e s live idle
  rcases dispatch_ends_quiet live idle e with ⟨t, went, live, atRest, quiescent⟩ | ⟨t, ended, raised⟩
  · exact ⟨t, congrArg Flow.outcome went, atRest, .inl ⟨live, quiescent⟩⟩
  · obtain ⟨atRest, halt, -, fatal⟩ := raised_halts raised
    exact ⟨t, congrArg Flow.outcome ended, atRest, .inr ⟨fatal, halt⟩⟩

/-! ### Calls from outside -/

/-- The calls of the host, the transport and the tick source (48_interfaces.md), and reset. -/
inductive Call : (State → Flow) → Prop
  | receive (b : List Byte) : Call (onReceive b)
  | line (connected : Bool) : Call (onLineStatusChange connected)
  | tick : Call tick
  | sent : Call onTransmitComplete
  | assign (address length : Nat) : Call (assignReceiveBuffer address length)
  | message (address length : Nat) (eom : Bool) : Call (enqueueTransmitBuffer address length eom)
  | killReceive (enable : Bool) : Call (killReceiveBuffers enable)
  | killTransmit (enable : Bool) : Call (killTransmitBuffers enable)
  | lineEnable (enabled : Bool) : Call (setLineEnabled enabled)
  | user (e : EventKind) : Call (userRequest e)
  | pickup : Call (act hostPickup)
  | reset : Call (act fun s => State.resetWith s.cfg s.env)

/-- An instruction that the outside can give is one of the calls. -/
theorem call_of_external {i : Instr} (offered : external i = true) : ∃ f, Call f ∧ ∀ s, exec i s = (f s).outcome := by
  cases i
  case data | maint | ack | nak | rep | strt | stack | onReceive => exact ⟨_, .receive _, fun _ => rfl⟩
  case assignReceiveBuffer => exact ⟨_, .assign _ _, fun _ => rfl⟩
  case enqueueTransmitBuffer => exact ⟨_, .message _ _ _, fun _ => rfl⟩
  case killReceiveBuffers => exact ⟨_, .killReceive _, fun _ => rfl⟩
  case killTransmitBuffers => exact ⟨_, .killTransmit _, fun _ => rfl⟩
  case setLineEnabled => exact ⟨_, .lineEnable _, fun _ => rfl⟩
  case userStartup | userHalt | userMaintenance => exact ⟨_, .user _, fun _ => rfl⟩
  case hostPickup => exact ⟨_, .pickup, fun _ => rfl⟩
  case onTransmitComplete => exact ⟨_, .sent, fun _ => rfl⟩
  case onLineStatusChange => exact ⟨_, .line _, fun _ => rfl⟩
  case tick => exact ⟨_, .tick, fun _ => rfl⟩
  case reset => exact ⟨_, .reset, fun _ => rfl⟩
  all_goals cases offered

/-- What a step does: nothing, a store of the host, or a call, with the stimulus taken off its list (R17). -/
theorem step_does {s t : State} (stepped : step s = .next t) :
    t = s ∨ (∃ a bs rest, t = { s with env.input := rest, env.mem := memWriteBytes s.env.mem a bs }) ∨
      ∃ f rest, Call f ∧ (f { s with env.input := rest }).outcome = .next t := by
  cases waits : s.env.input with
  | nil =>
    rw [step_idle waits] at stepped
    exact .inl (Host.Outcome.next.inj stepped).symm
  | cons stimulus rest =>
    cases stimulus with
    | hostStore a bs =>
      rw [step_hostStore waits] at stepped
      exact .inr (.inl ⟨a, bs, rest, (Host.Outcome.next.inj stepped).symm⟩)
    | call i =>
      cases offered : external i with
      | false => cases (step_call_notOffered waits offered).symm.trans stepped
      | true =>
        cases wf : i.wellFormed with
        | false => cases (step_call_illFormed waits offered wf).symm.trans stepped
        | true =>
          obtain ⟨f, call, runs⟩ := call_of_external offered
          exact .inr (.inr ⟨f, rest, call, (runs _).symm.trans ((step_call waits offered wf).symm.trans stepped)⟩)
    | frame bytes =>
      by_cases whole : ∃ i, decode bytes = .instr i []
      · obtain ⟨i, whole⟩ := whole
        obtain ⟨-, b, encoded, -⟩ := Frames.decodedBytesAreTheEncoding bytes [] i whole
        refine .inr (.inr ⟨_, rest, .receive b, ?_⟩)
        exact (exec_of_encode encoded).symm.trans ((step_frame waits whole).symm.trans stepped)
      · have other : ∀ i, decode bytes ≠ .instr i [] := fun i is => whole ⟨i, is⟩
        exact .inr (.inr ⟨_, rest, .receive bytes, (step_raw waits other).symm.trans stepped⟩)

/-! ### What every call keeps -/

/-- A property that what a host request does before its dispatch keeps too, and reset. -/
structure Lasting (P : State → Prop) : Prop extends Stable P where
  handed : ∀ {s t : State} {k : BufferKind} {q : HandleQueue} {h : Handle} (address length : Nat) (eom : Bool), P s →
    (k = .receive ∧ q = .receive ∨ k = .transmitData ∧ q = .transmit) → alloc k s = some (h, t) →
      P (enqueue (.handleIn q h)
        (setDesc h (fun d => { d with address := address, length := BitVec.ofNat 14 length, eom := eom }) t)).2
  killedReceive : ∀ {s : State}, P s → P (killAll .rxBufferKilled s.pool.receive { s with pool.receive := [] })
  killedTransmit : ∀ {s : State}, P s →
    P (killAll .txBufferKilled (s.pool.ackWait ++ s.pool.transmit) { s with pool.ackWait := [], pool.transmit := [] })
  picked : ∀ {s : State}, P s → P (hostPickup s)
  renewed : ∀ {s : State}, P s → P (State.resetWith s.cfg s.env)

section
variable {P : State → Prop} (lasting : Lasting P)
include lasting

theorem keeps_performed {f : Flow} (meets : Meets P True f) : Meets P True (performed f) :=
  meets.andThen fun _ holds => holds_answer lasting.toSteady holds _

theorem keeps_hostDispatch (e : EventKind) : Keeps P True (dispatch e) :=
  keeps_dispatch lasting.toSteady (keeps_kickInDispatch lasting.toStable) e

theorem keeps_acceptBuffer {k : BufferKind} {q : HandleQueue}
    (host : k = .receive ∧ q = .receive ∨ k = .transmitData ∧ q = .transmit) (address length : Nat) (eom : Bool) :
    Keeps P True (acceptBuffer k q address length eom) := by
  intro s holds
  unfold acceptBuffer
  split
  next => exact holds_raiseFatal lasting.toSteady holds _
  next h t got =>
    exact (keeps_hostDispatch lasting _ _ (lasting.handed address length eom holds host got)).andThen fun _ holds =>
      holds_answer lasting.toSteady holds _

/-- Every call of the outside keeps the property. -/
theorem keeps_call {f : State → Flow} (call : Call f) : Keeps P True f := by
  have steady := lasting.toSteady
  have dispatched := keeps_hostDispatch lasting
  intro s holds
  have asked : P (answer .none s) := holds_answer steady holds _
  cases call with
  | receive b => exact keeps_onReceive steady (keeps_kickInDispatch lasting.toStable) b s holds
  | tick => exact keeps_tick lasting.toStable s holds
  | pickup => exact lasting.picked holds
  | reset => exact lasting.renewed holds
  | line connected =>
    unfold onLineStatusChange
    split
    · exact holds
    · exact dispatched _ _ (steady.link holds fun sack snak => ⟨sack, snak⟩)
  | sent =>
    unfold onTransmitComplete
    split
    · exact holds
    · exact keeps_transmitComplete lasting.toStable s holds
  | assign address length =>
    unfold assignReceiveBuffer
    split
    · exact holds_answer steady holds _
    · exact keeps_acceptBuffer lasting (.inl ⟨rfl, rfl⟩) _ _ _ _ asked
  | message address length eom =>
    unfold enqueueTransmitBuffer
    split
    · exact holds_answer steady holds _
    · exact keeps_acceptBuffer lasting (.inr ⟨rfl, rfl⟩) _ _ _ _ asked
  | killReceive enable =>
    unfold killReceiveBuffers
    split
    · exact holds_answer steady holds _
    · exact keeps_performed lasting (dispatched _ _ (holds_latch steady (lasting.killedReceive asked) _))
  | killTransmit enable =>
    unfold killTransmitBuffers
    split
    · exact holds_answer steady holds _
    · exact keeps_performed lasting (dispatched _ _ (holds_latch steady (lasting.killedTransmit asked) _))
  | lineEnable enabled =>
    unfold setLineEnabled
    split
    · exact holds_answer steady holds _
    · exact keeps_performed lasting (f := .go _) (holds_env steady holds rfl)
  | user e =>
    unfold userRequest
    split
    · exact holds_answer steady holds _
    · exact keeps_performed lasting (dispatched _ _ asked)

theorem call_next {f : State → Flow} (call : Call f) {s t : State} (holds : P s) (went : (f s).outcome = .next t) : P t := by
  have meets := keeps_call lasting call s holds
  rcases outcome_eq_next went with go | ended
  · rw [go] at meets
    exact meets
  · rw [ended] at meets
    exact meets

end

/-! ### The engine's invariant -/

/-- The invariant of the engine, the dispatcher apart (R31, R34), under the configuration `c`. -/
structure Sound (c : Config) (s : State) : Prop where
  cfg : s.cfg = c
  latches : LatchExclusive s
  timer : TimerInRange s
  memory : Memory.wf s.env.mem = true

section
variable {c : Config} {s t : State}

/-- The queues, the descriptors and the transmitter are of no concern to it. -/
theorem Sound.of_same (sound : Sound c s) (cfg : t.cfg = s.cfg) (link : t.link = s.link) (timer : t.timer = s.timer)
    (mem : t.env.mem = s.env.mem) : Sound c t := by
  obtain ⟨is, latches, inRange, memory⟩ := sound
  refine ⟨cfg.trans is, ?_, ?_, mem ▸ memory⟩
  · rwa [LatchExclusive, link]
  · rwa [TimerInRange, timer, cfg]

theorem Sound.poolOnly (sound : Sound c s) (only : PoolOnly s t) : Sound c t := by
  obtain ⟨p, rfl⟩ := only
  exact sound.of_same rfl rfl rfl rfl

theorem Sound.relink (sound : Sound c s) {l : LinkVars}
    (apart : l.sack = true → l.snak = true → s.link.sack = true ∧ s.link.snak = true) : Sound c { s with link := l } :=
  ⟨sound.cfg, fun both => sound.latches (apart both.1 both.2), sound.timer, sound.memory⟩

/-- A change of the timer that leaves it in its range. -/
theorem Sound.retime (sound : Sound c s) {r : Timer} (inRange : TimerInRange { s with timer := r }) :
    Sound c { s with timer := r } := ⟨sound.cfg, sound.latches, inRange, sound.memory⟩

/-- A frame that is staged. -/
theorem Sound.staged (sound : Sound c s) {l : LinkVars} {p : Pool} {x : Staging}
    (sack : l.sack = s.link.sack) (snak : l.snak = s.link.snak) : Sound c { s with link := l, pool := p, tx := x } :=
  (sound.relink (l := l) fun a b => ⟨sack ▸ a, snak ▸ b⟩).of_same rfl rfl rfl rfl

/-- The invariant of the engine is kept by every shared operation and by what a host request does. -/
theorem lasting_sound (timeout : 1 ≤ c.pktTimeout) : Lasting (Sound c) where
  plain sound mem := sound.of_same rfl rfl rfl mem
  received sound := sound.of_same rfl rfl rfl rfl
  link sound apart := sound.relink apart
  started sound := sound.retime ⟨le_rfl, fun _ => by rw [sound.cfg]; exact timeout⟩
  stopped sound := sound.retime ⟨sound.timer.1, nofun⟩
  expired sound := sound.retime ⟨Nat.zero_le _, nofun⟩
  counted sound more := sound.retime ⟨(Nat.sub_le _ 1).trans sound.timer.1, fun _ => Nat.pos_of_ne_zero more⟩
  noted _ sound := sound.poolOnly (poolOnly_notify _ _)
  control {s t b} sound sent := by
    cases cons : s.pool.free with
    | nil =>
      simp only [sendControl, alloc_nil _ cons] at sent
      cases sent
    | cons h rest =>
      rw [sendControl_cons _ _ cons] at sent
      cases sent
      exact sound.staged (l := s.link) rfl rfl
  newData {s t} sound sent := by
    cases cons : s.pool.transmit with
    | nil =>
      simp only [sendNewData, cons] at sent
      cases sent
      exact sound
    | cons h rest =>
      obtain ⟨_, _, moves, -⟩ := sendNewData_moves Flow.go cons
      cases moves.symm.trans sent
      exact sound.staged (l := { s.link with n := s.link.n + 1, t := s.link.n + 1 + 1 }) rfl rfl
  maint {s t} sound sent := by
    cases cons : s.pool.transmit with
    | nil =>
      simp only [sendMaintMessage, cons] at sent
      cases sent
      exact sound
    | cons h rest =>
      obtain ⟨_, _, moves, -⟩ := sendMaintMessage_moves Flow.go cons
      cases moves.symm.trans sent
      exact sound.staged (l := s.link) rfl rfl
  resent sound _ _ := sound.of_same rfl rfl rfl rfl
  requeued sound := sound.poolOnly (poolOnly_requeueAckWait _)
  cleared {s} sound := by
    obtain ⟨p, reset, -⟩ := resetVariables_free s
    rw [reset]
    have fresh : Sound c (freshLink s) := sound.relink fun sack => nomatch sack
    exact fresh.of_same rfl rfl rfl rfl
  acked {s resp} sound :=
    (sound.poolOnly (poolOnly_completeLoop resp s.pool.ackWait.length s)).relink fun sack snak => ⟨sack, snak⟩
  delivered {s h rest p e} sound _ := by
    obtain ⟨q, done⟩ := deliver_eq s h rest p e
    have written := deliver_wf h rest p e s sound.memory
    rw [done] at written ⊢
    exact ⟨sound.cfg, sound.latches, sound.timer, written⟩
  taken sound _ _ := sound.of_same rfl rfl rfl rfl
  landed {s i} sound _ := by
    obtain ⟨l, landed, -⟩ := landFlight_free i s
    rw [landed]
    exact sound.of_same rfl rfl rfl rfl
  handed {s t k q h} _ _ _ sound _ got :=
    sound.poolOnly ((poolOnly_alloc s got).trans ((poolOnly_setDesc t h _).trans (poolOnly_enqueue _ _)))
  killedReceive sound := (sound.of_same rfl rfl rfl rfl).poolOnly (poolOnly_killAll _ _ _)
  killedTransmit sound := (sound.of_same rfl rfl rfl rfl).poolOnly (poolOnly_killAll _ _ _)
  picked {s} sound := by
    obtain ⟨p, r, picked⟩ := hostPickup_eq s
    rw [picked]
    exact sound.of_same rfl rfl rfl rfl
  renewed sound := ⟨sound.cfg, nofun, ⟨Nat.zero_le _, nofun⟩, sound.memory⟩

end

/-! ### Ownership -/

section
variable {s : State}

/-- Every descriptor is free after reset (R57). -/
theorem owned_reset (c : Config) (env : Env) : Owned (State.resetWith c env) := by
  refine ⟨List.length_replicate, ?_, nofun, nofun, nofun, nofun, nofun, List.nodup_nil, nofun⟩
  simp [holders, State.resetWith]

/-- What a host's buffer is before its dispatch, the queue having room. -/
theorem handed_room {q : HandleQueue} {k : BufferKind} {h : Handle} {rest : List Handle} (address length : Nat) (eom : Bool)
    (other : q = .receive ∨ q = .transmit) (room : (handles s.pool q).length ≠ s.cfg.window) :
    (enqueue (.handleIn q h) (setDesc h (fun d => { d with address := address, length := BitVec.ofNat 14 length, eom := eom })
      { s with pool := allocated k h rest s.pool })).2 = handedIn q (described k address length eom) h rest s := by
  have written : (allocated k h rest s.pool).desc.modify h
      (fun d => { d with address := address, length := BitVec.ofNat 14 length, eom := eom }) =
      s.pool.desc.modify h (described k address length eom) := by
    rw [allocated, List.modify_modify_eq]
    rfl
  simp only [setDesc, written]
  rcases other with rfl | rfl <;>
  · rw [enqueue_room h (by exact room)]
    rfl

/-- So is ownership. -/
theorem lasting_owned (c : Config) : Lasting fun s => Owned s ∧ s.cfg = c where
  toStable := stable_owned c
  handed {s t k q h} address length eom holds host got := by
    obtain ⟨owned, cfg⟩ := holds
    have all := holders_length owned
    cases cons : s.pool.free with
    | nil => cases (alloc_nil k cons).symm.trans got
    | cons h' rest =>
      cases (alloc_cons k cons).symm.trans got
      rw [cons, List.length_cons] at all
      rcases host with ⟨rfl, rfl⟩ | ⟨rfl, rfl⟩
      · rw [handed_room address length eom (.inl rfl) (by simp only [handles]; omega)]
        exact ⟨owned_handedIn_receive owned cons address length eom, cfg⟩
      · rw [handed_room address length eom (.inr rfl) (by simp only [handles]; omega)]
        exact ⟨owned_handedIn_transmit owned cons address length eom, cfg⟩
  killedReceive {s} holds := by
    obtain ⟨p, only⟩ := poolOnly_killAll { s with pool.receive := [] } .rxBufferKilled s.pool.receive
    exact ⟨owned_killReceive holds.1 _, by rw [only]; exact holds.2⟩
  killedTransmit {s} holds := by
    obtain ⟨p, only⟩ := poolOnly_killAll { s with pool.ackWait := [], pool.transmit := [] } .txBufferKilled
      (s.pool.ackWait ++ s.pool.transmit)
    exact ⟨owned_killTransmit holds.1 _, by rw [only]; exact holds.2⟩
  picked {s} holds := by
    obtain ⟨p, r, picked⟩ := hostPickup_eq s
    exact ⟨owned_hostPickup holds.1, by rw [picked]; exact holds.2⟩
  renewed holds := ⟨owned_reset _ _, holds.2⟩

end

end Sys2Proof.Proofs.Invariants

/-! SUPPORT. Whole steps leave the dispatcher at rest, and a quiescent link quiescent (R216, R351); the fatal condition leaves
it halted (R346). With the properties that every call keeps, the two invariants of the model. -/

namespace Sys2Proof.Proofs.RestAndQuiescence

open Sys2Proof.Machine Sys2Proof.Laws Sys2Proof.Proofs.Timer Sys2Proof.Proofs.Dispatch Sys2Proof.Proofs.FatalLatch
  Sys2Proof.Proofs.Rules Sys2Proof.Proofs.Interfaces Sys2Proof.Proofs.Kicks
  Sys2Proof.Proofs.PoolWrites Sys2Proof.Proofs.WhileFatal Sys2Proof.Proofs.Walk Sys2Proof.Proofs.Ownership
  Sys2Proof.Proofs.Invariants

/-- The engine takes events, no dispatch runs, and, where `q` says so, the link is quiescent. -/
structure Rested (q : Prop) (s : State) : Prop where
  ready : Ready s
  quiescent : q → Quiescent s

/-- How a piece of a step comes out: at rest, or by `raise Fatal`. -/
def Comes (q : Prop) : Flow → Prop
  | .go t => Rested q t
  | .ended t => Raised t
  | .overrun => True

section
variable {q : Prop} {s t : State}

theorem Comes.andThen {f : Flow} {g : State → Flow} (first : Comes q f) (second : ∀ t, Rested q t → Comes q (g t)) :
    Comes q (f.andThen g) := by
  cases f with
  | go t => exact second t first
  | ended t => exact first
  | overrun => trivial

theorem comes_dispatch (ready : Ready s) (e : EventKind) : Comes q (dispatch e s) := by
  obtain ⟨atRest, live⟩ := ready
  have idle : s.disp.scanning = false := by rw [show s.disp = restingDispatcher from atRest]; rfl
  rcases dispatch_ends_quiet live idle e with ⟨t, went, live, atRest, quiescent⟩ | ⟨t, ended, raised⟩
  · rw [went]
    exact ⟨⟨atRest, live⟩, fun _ => quiescent⟩
  · rw [ended]
    exact raised

/-- What no entry reads changes. -/
theorem Rested.of_same (rested : Rested q s) (disp : t.disp = s.disp) (latch : t.latch.fatal = s.latch.fatal)
    (cfg : t.cfg = s.cfg) (link : t.link = s.link) (timer : t.timer = s.timer) (fifo : t.tx.fifo = s.tx.fifo)
    (inflight : t.tx.inflight = s.tx.inflight) (transmit : t.pool.transmit = s.pool.transmit)
    (ackWait : t.pool.ackWait = s.pool.ackWait) : Rested q t := by
  obtain ⟨⟨atRest, live⟩, quiescent⟩ := rested
  refine ⟨⟨disp.trans atRest, latch.trans live⟩, fun holds => ?_⟩
  simpa only [quiescent_iff, xmitIdle, tBehindNextNew, tIsNextNew, ackWaitNotFull, cfg, link, timer, fifo, inflight, transmit,
    ackWait] using quiescent holds

/-- While a frame is staged or in flight the link sends nothing of its own accord. -/
theorem quiescent_busy (quiescent : Quiescent s) (link : t.link = s.link) (timer : t.timer = s.timer)
    (busy : xmitIdle t = false) : Quiescent t := by
  obtain ⟨-, startup, run⟩ := quiescent_iff.mp quiescent
  refine quiescent_iff.mpr ⟨fun _ idle => ?_, ?_, fun is => ⟨?_, fun idle => ?_⟩⟩
  · cases busy.symm.trans idle
  · rwa [link, timer]
  · rw [link] at is ⊢
    exact (run is).1
  · cases busy.symm.trans idle

theorem Rested.answer (rested : Rested q s) (r : Reply) : Rested q (answer r s) :=
  rested.of_same rfl rfl rfl rfl rfl rfl rfl rfl rfl

/-- What is heard changes the boundary only (R322, R323). -/
theorem heard_kept (b : List Byte) (s : State) : ∃ e : Env, (heard b s).2 = { s with env := e } := by
  have chosen := corruptionChoice_update (s := s) (t := s) rfl rfl
  have kept : (corruptionChoice s).2 = { s with env := (corruptionChoice s).2.env } := congrArg Prod.snd chosen
  simp only [heard]
  split <;> exact ⟨_, kept⟩

theorem comes_onReceive (rested : Rested q s) (b : List Byte) : Comes q (onReceive b s) := by
  obtain ⟨e, kept⟩ := heard_kept b s
  have heard : Rested q (Machine.heard b s).2 := by
    rw [kept]
    exact rested.of_same rfl rfl rfl rfl rfl rfl rfl rfl rfl
  simp only [onReceive]
  split
  · exact rested
  · split
    · refine comes_dispatch ?_ _
      exact heard.ready
    · exact heard

theorem comes_receptions : ∀ (frames : List (List Byte)) {s : State}, Rested q s →
    Comes q (runActions (frames.map onReceive) s)
  | [], _, rested => rested
  | b :: frames, _, rested => (comes_onReceive rested b).andThen fun _ rested => comes_receptions frames rested

/-! ### The transmitter outside a dispatch -/

theorem Rested.offered (rested : Rested q s) (b : List Byte) : Rested q (offerFrame b s).2 := by
  obtain ⟨e, kept⟩ := offerFrame_kept b s
  rw [kept]
  exact rested.of_same rfl rfl rfl rfl rfl rfl rfl rfl rfl

theorem Rested.taken (rested : Rested q s) (item : TxItem) (rest : List TxItem) :
    Rested q (takeFlight item rest (offerFrame item.bytes s).2) := by
  obtain ⟨⟨atRest, live⟩, quiescent⟩ := rested
  obtain ⟨e, kept⟩ := offerFrame_kept item.bytes s
  rw [kept]
  exact ⟨⟨atRest, live⟩, fun holds => quiescent_busy (quiescent holds) rfl rfl rfl⟩

theorem comes_landed (ready : Ready s) (item : TxItem) : Comes q (dispatch .transmitDone (landFlight item s)) := by
  obtain ⟨l, landed, -⟩ := landFlight_free item s
  rw [landed]
  refine comes_dispatch ?_ _
  exact ready

theorem comes_kickIdle : ∀ {n : Nat} {s : State}, Rested q s → Comes q (kickIdle n s)
  | 0, _, _ => trivial
  | n + 1, s, rested => by
    have landed : ∀ {item : TxItem} {t : State}, Rested q t →
        Comes q ((dispatch .transmitDone (landFlight item t)).andThen (kickIdle n)) := fun rested =>
      (comes_landed rested.ready _).andThen fun _ => comes_kickIdle
    simp only [kickIdle]
    split
    next => exact rested
    next =>
      split
      next => exact rested
      next item rest cons =>
        have sent := rested.taken item rest
        split
        next => exact rested.offered _
        next => exact sent
        next => exact landed sent
        next frames completes _ =>
          refine (comes_receptions frames sent).andThen fun t rested => ?_
          split
          · exact landed rested
          · exact rested

theorem comes_txKick (rested : Rested q s) : Comes q (txKick s) := by
  have idle : s.disp.scanning = false := by rw [show s.disp = restingDispatcher from rested.ready.1]; rfl
  rw [txKick, if_neg (by simp [idle])]
  exact comes_kickIdle rested

theorem comes_transmitComplete (rested : Rested q s) : Comes q (transmitComplete s) := by
  unfold transmitComplete
  split
  · exact rested
  · exact (comes_landed rested.ready _).andThen fun _ => comes_txKick

theorem comes_tickTimer (rested : Rested q s) : Comes q (tickTimer s) := by
  unfold tickTimer
  split
  · split
    · refine comes_dispatch ?_ _
      exact rested.ready
    · refine ⟨rested.ready, fun holds => ?_⟩
      simpa only [quiescent_iff, xmitIdle, tBehindNextNew, tIsNextNew, ackWaitNotFull] using rested.quiescent holds
  · exact rested

/-! ### Every call -/

theorem comes_performed {f : Flow} (comes : Comes q f) : Comes q (performed f) := comes.andThen fun _ rested => rested.answer _

theorem comes_acceptBuffer (ready : Ready s) (k : BufferKind) (x : HandleQueue) (address length : Nat) (eom : Bool) :
    Comes q (acceptBuffer k x address length eom s) := by
  unfold acceptBuffer
  split
  next => exact raised_raiseFatal _ _
  next h t got =>
    obtain ⟨p, only⟩ := (poolOnly_alloc s got).trans ((poolOnly_setDesc t h _).trans (poolOnly_enqueue _ (.handleIn x h)))
    refine Comes.andThen (comes_dispatch ?_ _) fun _ rested => rested.answer _
    rw [only]
    exact ready

/-- The host takes a record and gives a descriptor back (R309). -/
theorem hostPickup_kept (s : State) : ∃ (l : List Handle) (m : List Completion) (r : Reply),
    hostPickup s = Machine.answer r { s with pool := { s.pool with free := l, completion := m } } := by
  unfold hostPickup
  split
  next empty => exact ⟨s.pool.free, [], _, by rw [← empty]⟩
  next r rest _ =>
    cases r.buffer with
    | none => exact ⟨s.pool.free, rest, _, rfl⟩
    | some h => exact ⟨(listEnqueue s.cfg.window s.pool.free h).2, rest, _, rfl⟩

/-- A call that finds the link at rest and not fatal. -/
theorem comes_call {f : State → Flow} (call : Call f) (rested : Rested q s) : Comes q (f s) := by
  have live := rested.ready.2
  have asked := rested.answer .none
  cases call with
  | receive b => exact comes_onReceive rested b
  | line connected =>
    rw [onLineStatusChange, if_neg (by simp [live])]
    refine comes_dispatch ?_ _
    exact rested.ready
  | tick =>
    rw [tick, if_neg (by simp [live])]
    exact (comes_txKick rested).andThen fun _ => comes_tickTimer
  | sent =>
    rw [onTransmitComplete, if_neg (by simp [live])]
    exact comes_transmitComplete rested
  | assign address length =>
    unfold assignReceiveBuffer
    split
    · exact rested.answer _
    · exact comes_acceptBuffer asked.ready _ _ _ _ _
  | message address length eom =>
    unfold enqueueTransmitBuffer
    split
    · exact rested.answer _
    · exact comes_acceptBuffer asked.ready _ _ _ _ _
  | killReceive enable =>
    obtain ⟨p, only⟩ := poolOnly_killAll { answer .none s with pool.receive := [] } .rxBufferKilled s.pool.receive
    rw [killReceiveBuffers, if_neg (by simp [live])]
    refine comes_performed (comes_dispatch ?_ _)
    simp only [only]
    exact rested.ready
  | killTransmit enable =>
    obtain ⟨p, only⟩ := poolOnly_killAll { answer .none s with pool.ackWait := [], pool.transmit := [] } .txBufferKilled
      (s.pool.ackWait ++ s.pool.transmit)
    rw [killTransmitBuffers, if_neg (by simp [live])]
    refine comes_performed (comes_dispatch ?_ _)
    simp only [only]
    exact rested.ready
  | lineEnable enabled =>
    rw [setLineEnabled, if_neg (by simp [live])]
    exact rested.of_same rfl rfl rfl rfl rfl rfl rfl rfl rfl
  | user e =>
    rw [userRequest, if_neg (by simp [live])]
    exact comes_performed (comes_dispatch asked.ready _)
  | pickup =>
    obtain ⟨l, m, r, picked⟩ := hostPickup_kept s
    rw [act, picked]
    exact rested.of_same rfl rfl rfl rfl rfl rfl rfl rfl rfl
  | reset => exact ⟨⟨rfl, rfl⟩, fun _ => halt_quiescent rfl⟩

end

/-! ### The fatal condition -/

/-- While fatal, a call leaves the link, the timer and the dispatcher as they are, unless it is reset (R346). -/
theorem call_fatal {f : State → Flow} (call : Call f) {s : State} (fatal : s.latch.fatal = true) :
    (∃ t, f s = .go t ∧ t.disp = s.disp ∧ t.link = s.link ∧ t.timer = s.timer ∧ t.latch = s.latch) ∨
      f s = .go (State.resetWith s.cfg s.env) := by
  cases call with
  | receive b => exact .inl ⟨s, onReceive_fatal fatal b, rfl, rfl, rfl, rfl⟩
  | line connected => exact .inl ⟨s, if_pos fatal, rfl, rfl, rfl, rfl⟩
  | tick => exact .inl ⟨s, tick_of_fatal fatal, rfl, rfl, rfl, rfl⟩
  | sent => exact .inl ⟨s, if_pos fatal, rfl, rfl, rfl, rfl⟩
  | assign address length => exact .inl ⟨_, assignReceiveBuffer_fatal fatal _ _, rfl, rfl, rfl, rfl⟩
  | message address length eom => exact .inl ⟨_, enqueueTransmitBuffer_fatal fatal _ _ _, rfl, rfl, rfl, rfl⟩
  | killReceive enable => exact .inl ⟨_, killReceiveBuffers_fatal fatal _, rfl, rfl, rfl, rfl⟩
  | killTransmit enable => exact .inl ⟨_, killTransmitBuffers_fatal fatal _, rfl, rfl, rfl, rfl⟩
  | lineEnable enabled => exact .inl ⟨_, if_pos fatal, rfl, rfl, rfl, rfl⟩
  | user e => exact .inl ⟨_, userRequest_fatal fatal _, rfl, rfl, rfl, rfl⟩
  | pickup =>
    obtain ⟨p, r, picked⟩ := hostPickup_eq s
    exact .inl ⟨_, congrArg Flow.go picked, rfl, rfl, rfl, rfl⟩
  | reset => exact .inr rfl

/-! ### Whole steps -/

section
variable {s t : State}

/-- A call that finds the dispatcher at rest leaves it at rest, and a quiescent link, halted where it is fatal, so. -/
theorem call_rests {f : State → Flow} (call : Call f) (atRest : AtRest s) (went : (f s).outcome = .next t) :
    AtRest t ∧ (Quiescent s ∧ FatalHalted s → Quiescent t ∧ FatalHalted t) := by
  cases fatal : s.latch.fatal with
  | false =>
    have comes := comes_call (q := Quiescent s) call ⟨⟨atRest, fatal⟩, id⟩
    rcases outcome_eq_next went with go | ended
    · rw [go] at comes
      obtain ⟨⟨atRest, live⟩, quiescent⟩ := comes
      exact ⟨atRest, fun both => ⟨quiescent both.1, fun is => by cases live.symm.trans is⟩⟩
    · rw [ended] at comes
      obtain ⟨atRest, halt, stopped, -⟩ := raised_halts comes
      exact ⟨atRest, fun _ => ⟨halt_quiescent halt, fun _ => ⟨halt, stopped⟩⟩⟩
  | true =>
    rcases call_fatal call fatal with ⟨u, answered, disp, link, timer, latch⟩ | reset
    · cases (congrArg Flow.outcome answered).symm.trans went
      refine ⟨disp.trans atRest, fun both => ?_⟩
      obtain ⟨halt, stopped⟩ := both.2 fatal
      exact ⟨halt_quiescent (by rw [link, halt]), fun _ => ⟨by rw [link, halt], by rw [timer, stopped]⟩⟩
    · cases (congrArg Flow.outcome reset).symm.trans went
      exact ⟨rfl, fun _ => ⟨halt_quiescent rfl, nofun⟩⟩

end

/-- Settles O57: a step is a store of the host or a call, and each call keeps the invariant and leaves the dispatcher at
rest. -/
theorem everyStepKeepsTheEngineInvariant : Obligations.EveryStepKeepsTheEngineInvariant := by
  intro s t inv stepped
  obtain ⟨timeout, latches, timer, atRest, memory⟩ := inv
  rcases step_does stepped with rfl | ⟨a, bs, rest, rfl⟩ | ⟨f, rest, call, went⟩
  · exact ⟨⟨timeout, latches, timer, atRest, memory⟩, rfl⟩
  · exact ⟨⟨timeout, latches, timer, atRest, memWriteBytes_wf _ _ _ memory⟩, rfl⟩
  · have taken : Sound s.cfg { s with env.input := rest } := ⟨rfl, latches, timer, memory⟩
    obtain ⟨cfg, latches, timer, memory⟩ := call_next (lasting_sound timeout) call taken went
    exact ⟨⟨by rw [cfg]; exact timeout, latches, timer, (call_rests (s := { s with env.input := rest }) call atRest went).1, memory⟩, cfg⟩

/-- Settles O58: a store of the host touches no owner and no entry's condition, and each call keeps ownership, quiescence and
a fatal link halted. -/
theorem everyOutsideStepKeepsTheLinkInvariant : Obligations.EveryOutsideStepKeepsTheLinkInvariant := by
  intro s t inv stepped
  obtain ⟨atRest, quiescent, halted, owned⟩ := inv
  have unread : ∀ e : Env, Quiescent { s with env := e } := fun _ => quiescent_receive quiescent rfl rfl rfl rfl rfl rfl
  have kept : ∀ e : Env, Owned { s with env := e } := fun _ => owned_of_same owned rfl rfl rfl rfl
  rcases step_does stepped with rfl | ⟨a, bs, rest, rfl⟩ | ⟨f, rest, call, went⟩
  · exact ⟨atRest, quiescent, halted, owned⟩
  · exact ⟨atRest, unread _, halted, kept _⟩
  · obtain ⟨owned, -⟩ := call_next (lasting_owned s.cfg) call (s := { s with env.input := rest }) ⟨kept _, rfl⟩ went
    obtain ⟨atRest, others⟩ := call_rests call (s := { s with env.input := rest }) atRest went
    obtain ⟨quiescent, halted⟩ := others ⟨unread _, halted⟩
    exact ⟨atRest, quiescent, halted, owned⟩

/-- Settles O56: the halted link at rest, its descriptors free. -/
theorem invariantsHoldAtReset : Obligations.InvariantsHoldAtReset := by
  have engine : ∀ (c : Config) (env : Env), 1 ≤ c.pktTimeout → Memory.wf env.mem = true → EngineInv (State.resetWith c env) :=
    fun c env timeout memory => ⟨timeout, nofun, ⟨Nat.zero_le _, nofun⟩, rfl, memory⟩
  have link : ∀ (c : Config) (env : Env), LinkInv (State.resetWith c env) :=
    fun c env => ⟨rfl, halt_quiescent rfl, nofun, owned_reset c env⟩
  exact ⟨⟨engine _ _ (by decide) rfl, link _ _⟩, fun c env range memory => ⟨engine c env range.2.2.1 memory, link c env⟩⟩

end Sys2Proof.Proofs.RestAndQuiescence

/-! SUPPORT. Frames that the transport delivers inside `send` (R378): they merge while a dispatch runs (R37, R215), and are
received one after the other outside one; where the transport then reports completion, `transmit_complete` follows. -/

namespace Sys2Proof.Proofs.Merging

open Sys2Proof.Machine Sys2Proof.Laws Sys2Proof.Proofs.Timer Sys2Proof.Proofs.Dispatch Sys2Proof.Proofs.FatalLatch
  Sys2Proof.Proofs.Interfaces Sys2Proof.Proofs.Kicks Sys2Proof.Proofs.WhileFatal Sys2Proof.Proofs.Policy
  Sys2Proof.Proofs.Walk Sys2Proof.Proofs.Bounds

section
variable {s s1 t : State} {x : TxItem} {xs : List TxItem} {frames : List (List Byte)}

/-! ### While a dispatch runs -/

/-- A frame that posts no packet, and one that posts `rx`. -/
theorem heardScanning_cons (b : List Byte) (frames : List (List Byte)) (s : State) :
    heardScanning (b :: frames) s = heardScanning frames (match received b with
      | some rx => postEvent .packetReceived { s with tx.rxPkt := some rx }
      | none => s) := by
  cases hears : received b with
  | none => simp only [heardScanning, List.filterMap_cons, hears]
  | some rx =>
    simp only [heardScanning, List.filterMap_cons, hears, List.getLast?_cons]
    cases (frames.filterMap received).getLast? <;> rfl

theorem foldl_receiveScanning : ∀ (frames : List (List Byte)) {s : State}, s.cfg.corruptPermille = 0 →
    s.latch.fatal = false → frames.foldl receiveScanning s = heardScanning frames s
  | [], _, _, _ => rfl
  | b :: frames, s, off, live => by
    rw [List.foldl_cons, receiveScanning_off b off live, heardScanning_cons]
    cases received b with
    | none => exact foldl_receiveScanning frames off live
    | some rx => exact foldl_receiveScanning frames off live

theorem heardScanning_kept (frames : List (List Byte)) (s : State) :
    (heardScanning frames s).tx.inflight = s.tx.inflight ∧ (heardScanning frames s).tx.fifo = s.tx.fifo ∧
      (heardScanning frames s).latch = s.latch ∧ (heardScanning frames s).disp.scanning = s.disp.scanning := by
  unfold heardScanning
  split <;> exact ⟨rfl, rfl, rfl, rfl⟩

/-- The completion is posted after what was heard, and the kick goes on. -/
theorem transmitComplete_scanning (live : s.latch.fatal = false) (scanning : s.disp.scanning = true)
    (flying : s.tx.inflight = some x) :
    transmitComplete s = .go (kickScanning s.tx.fifo.length (dispatchScanning .transmitDone (landFlight x s))) := by
  obtain ⟨l, landed, -⟩ := landFlight_free x s
  rw [transmitComplete_some flying, landed]
  simp [dispatch, dispatchScanning, live, scanning, Flow.andThen, txKick, kickInDispatch]

theorem txKick_delivers_scanning {completes : Bool} (scanning : s.disp.scanning = true) (idle : s.tx.inflight = none)
    (cons : s.tx.fifo = x :: xs) (offered : offerFrame x.bytes s = (.acceptedReceiving frames completes, s1)) :
    txKick s = .go (if completes = true then
        kickScanning xs.length (dispatchScanning .transmitDone (landFlight x (frames.foldl receiveScanning (takeFlight x xs s1))))
      else frames.foldl receiveScanning (takeFlight x xs s1)) := by
  simp [txKick, scanning, kickInDispatch, cons, kickScanning, idle, offered]

/-! ### Outside a dispatch -/

/-- Frames received one after the other, as the model's own loop receives them: one that ends the step by `raise Fatal` leaves
the others unheard (R346). -/
theorem receptions_eq : ∀ (frames : List (List Byte)) (s : State),
    receptions frames s = (runActions (frames.map onReceive) s).outcome
  | [], _ => rfl
  | b :: frames, s => by
    have first : exec (.onReceive b) s = (onReceive b s).outcome := rfl
    simp only [receptions, first, List.map_cons, runActions]
    have latch := keepsFatal_onReceive b s
    cases went : onReceive b s with
    | go t => exact receptions_eq frames t
    | overrun => rfl
    | ended t =>
      rw [went] at latch
      have unheard : ∀ frames : List (List Byte), receptions frames t = .next t := by
        intro frames
        induction frames with
        | nil => rfl
        | cons b frames ih =>
          have ignored : exec (.onReceive b) t = .next t := congrArg Flow.outcome (onReceive_fatal latch.fatal b)
          simp only [receptions, ignored, ih]
      exact unheard frames

/-- Where the transport reports completion after what it delivered, the kick that follows has a bound that exceeds what is
left. -/
theorem txKick_delivers_completes (owned : Owned s) (range : s.cfg.InRange) (idle : s.tx.inflight = none)
    (resting : s.disp.scanning = false) (cons : s.tx.fifo = x :: xs)
    (offered : offerFrame x.bytes s = (.acceptedReceiving frames true, s1))
    (went : runActions (frames.map onReceive) (takeFlight x xs s1) = .go t) (live : t.latch.fatal = false)
    (left : t.disp.scanning = false) :
    txKick s = transmitComplete t := by
  have bounded := bounded_of_owned owned range
  have enough := charge_lt_budget s
  obtain ⟨n, hn⟩ := budget_pos s
  have flying := keeps_receptions (stuck := True) (steady_inflight x) (keeps_inflight_kickInDispatch x) frames
    (takeFlight x xs s1) rfl
  rw [went] at flying
  have turn : txKick s = (dispatch .transmitDone (landFlight x t)).andThen (kickIdle n) := by
    have := went
    simp only [takeFlight] at this
    simp [txKick, resting, hn, kickIdle, idle, cons, offered, takeFlight, this, Flow.andThen]
  have answer : (offerFrame x.bytes s).1 = .acceptedReceiving frames true := by rw [offered]
  obtain ⟨bounded', less⟩ := receptions_charge bounded cons answer (by rw [offered]; exact went)
  rw [turn, transmitComplete_some flying]
  cases dispatched : dispatch .transmitDone (landFlight x t) with
  | ended => rfl
  | overrun => rfl
  | go u =>
    obtain ⟨⟨stock_le, free_le, window_le⟩, charged⟩ := landed_charge bounded' dispatched
    have leftAgain : u.disp.scanning = false := by
      obtain ⟨l, landed, -⟩ := landFlight_free x t
      rw [dispatch_of_idle (by rw [landed]; exact live) (by rw [landed]; exact left)] at dispatched
      exact dispatchLoop_scanning dispatched
    have again : txKick u = kickIdle (budget u) u := by simp [txKick, leftAgain]
    have smaller := charge_mono stock_le u
    exact (kickIdle_congr ⟨le_rfl, free_le, window_le⟩ (by omega) (charge_lt_budget u)).trans again.symm

/-- A frame received outside a dispatch leaves the dispatcher. -/
theorem onReceive_scanning {b : List Byte} (live : s.latch.fatal = false) (resting : s.disp.scanning = false)
    (went : onReceive b s = .go t) : t.disp.scanning = false := by
  obtain ⟨e, kept⟩ := RestAndQuiescence.heard_kept b s
  simp only [onReceive, live, Bool.false_eq_true, if_false] at went
  split at went
  next rx _ =>
    rw [dispatch_of_idle (by rw [kept]; exact live) (by rw [kept]; exact resting)] at went
    exact dispatchLoop_scanning went
  next =>
    cases went
    rw [kept]
    exact resting

theorem receptions_leave : ∀ {frames : List (List Byte)} {s : State}, s.latch.fatal = false → s.disp.scanning = false →
    runActions (frames.map onReceive) s = .go t → t.latch.fatal = false ∧ t.disp.scanning = false
  | [], s, live, resting, went => by
    cases went
    exact ⟨live, resting⟩
  | b :: frames, s, live, resting, went => by
    obtain ⟨u, first, others⟩ := andThen_eq_go.mp went
    have latch := keepsFatal_onReceive b s
    rw [first] at latch
    exact receptions_leave (latch.trans live) (onReceive_scanning live resting first) others

end

/-- Settles O60: the loop that hears the frames is `heardScanning` while a dispatch runs, and `receptions` outside one. -/
theorem framesDeliveredInsideSendMerge : Obligations.FramesDeliveredInsideSendMerge := by
  refine ⟨fun s b rx live off scanning hears => ?one, fun s s1 x xs frames completes live idle cons offered => ?_⟩
  case one =>
    rw [exec_onReceive, onReceive_some live (by rw [heard_off b off, hears]),
      dispatch_of_scanning (s := { s with tx.rxPkt := some rx }) live scanning]
    rfl
  intro sent
  have kept := offerFrame_eq offered
  have live' : sent.latch.fatal = false := by simp only [sent]; rw [kept]; exact live
  rw [exec_txKick live]
  refine ⟨fun scanning off => ?inside, fun resting => ⟨fun silent => ?outside, fun reports owned range t heard => ?after⟩⟩
  case inside =>
    have merged : frames.foldl receiveScanning sent = heardScanning frames sent :=
      foldl_receiveScanning frames (by simp only [sent]; rw [kept]; exact off) live'
    rw [txKick_delivers_scanning scanning idle cons offered]
    refine ⟨fun silent => ?_, fun reports => ?_⟩
    · rw [silent]
      exact congrArg Host.Outcome.next merged
    · obtain ⟨inflight, fifo, latch, disp⟩ := heardScanning_kept frames sent
      have scanning' : sent.disp.scanning = true := by simp only [sent]; rw [kept]; exact scanning
      rw [exec_transmitComplete (by rw [latch]; exact live'),
        transmitComplete_scanning (by rw [latch]; exact live') (disp.trans scanning') inflight, fifo, reports]
      simp only [if_true]
      exact congrArg (fun u => Host.Outcome.next (kickScanning xs.length (dispatchScanning .transmitDone (landFlight x u)))) merged
  case outside =>
    subst silent
    rw [txKick_receiving resting idle cons offered, receptions_eq]
  case after =>
    subst reports
    have resting' : sent.disp.scanning = false := by simp only [sent]; rw [kept]; exact resting
    rw [receptions_eq] at heard
    rcases outcome_eq_next heard with went | ended
    · obtain ⟨live, left⟩ := receptions_leave live' resting' went
      rw [txKick_delivers_completes owned range idle resting cons offered went live left, exec_transmitComplete live]
    · have follows : LatchFollows false (runActions (frames.map onReceive) sent) :=
        (keepsFatal_runActions fun a mem => by
          obtain ⟨b, -, rfl⟩ := List.mem_map.mp mem
          exact keepsFatal_onReceive b).latchFollows live'
      rw [ended] at follows
      have ignored : exec .transmitComplete t = .next t :=
        congrArg Flow.outcome (unlessFatal_fatal follows.fatal transmitComplete)
      obtain ⟨n, hn⟩ := budget_pos s
      have stopped : runActions (frames.map onReceive) { s1 with tx.fifo := xs, tx.inflight := some x } = .ended t := ended
      rw [ignored]
      simp [txKick, resting, hn, kickIdle, idle, cons, offered, takeFlight, stopped, Flow.andThen, Flow.outcome]

end Sys2Proof.Proofs.Merging

/-! SUPPORT. The entries that send a frame, as instructions (R261, R265, R266, R268, R271, R272, R276, R284 to R288): an entry
that matches fires; it stages its frame and kicks, or raises Fatal where the pool or the buffer it asks for is missing. -/

namespace Sys2Proof.Proofs.SendingEntries

open Sys2Proof.Machine Sys2Proof.Laws Sys2Proof.Proofs.Dispatch Sys2Proof.Proofs.Actions Sys2Proof.Proofs.Rules
  Sys2Proof.Proofs.Conditions

/-! ### An entry that fires and sends -/

/-- The instruction of an entry that matches fires it, and answers that it did (log 13). -/
def Fires (i : Instr) (r : Rule) (s : State) : Prop :=
  exec i s = (r.fire (scanPacket s.disp.curEvent s) (answer (.flag true) s)).outcome

section
variable {i : Instr} {r : Rule} {s pre t : State} {fl : Config → LinkVars → LinkVars} {ft : Config → Timer → Timer}

theorem fires_of_applies (entry : exec i s = (tryRule r s).outcome) (live : s.latch.fatal = false)
    (applies : r.applies s.disp.curEvent (scanPacket s.disp.curEvent s) s = true) : Fires i r s := by
  rw [Fires, entry, tryRule, live, applies]
  rfl

/-- An entry whose actions end in a kick, and after it write link variables and the timer only. -/
theorem sends_of_fires (fires : Fires i r s)
    (ran : runActions (r.actions (scanPacket s.disp.curEvent s)) (answer (.flag true) s) =
      (txKick pre).andThen fun v => .go { v with link := fl v.cfg v.link, timer := ft v.cfg v.timer }) :
    Sends (exec i s) { pre with link := { fl pre.cfg pre.link with state := r.newState }, timer := ft pre.cfg pre.timer } := by
  have fired : r.fire (scanPacket s.disp.curEvent s) (answer (.flag true) s) = (txKick pre).andThen fun v =>
      .go { v with link := { fl v.cfg v.link with state := r.newState }, timer := ft v.cfg v.timer } := by
    rw [Rule.fire, ran]
    cases txKick pre <;> rfl
  rw [fires, fired]
  exact sends_of_kick pre (fun c l => { fl c l with state := r.newState }) ft

/-- The same of an entry whose new state is the state it is in. -/
theorem sends_in_place (fires : Fires i r s)
    (ran : runActions (r.actions (scanPacket s.disp.curEvent s)) (answer (.flag true) s) =
      (txKick pre).andThen fun v => .go { v with link := fl v.cfg v.link, timer := ft v.cfg v.timer })
    (same : (fl pre.cfg pre.link).state = r.newState) :
    Sends (exec i s) { pre with link := fl pre.cfg pre.link, timer := ft pre.cfg pre.timer } := by
  have sends := sends_of_fires fires ran
  rwa [← same] at sends

/-- A first action that stages a frame and kicks. -/
theorem runActions_kick {a : State → Flow} {l : List (State → Flow)} {u : State} (staged : a u = txKick pre) :
    runActions (a :: l) u = (txKick pre).andThen (runActions l) := by
  rw [runActions, staged]

/-- An entry whose actions raise Fatal applies no new state (R221). -/
theorem exec_of_ends (fires : Fires i r s)
    (ends : runActions (r.actions (scanPacket s.disp.curEvent s)) (answer (.flag true) s) = .ended t) :
    exec i s = .next t := by
  rw [fires, Rule.fire, ends]
  rfl

theorem exec_of_runs (fires : Fires i r s)
    (runs : runActions (r.actions (scanPacket s.disp.curEvent s)) (answer (.flag true) s) = .go t)
    (same : t.link.state = r.newState) : exec i s = .next t := by
  rw [fires, fire_of_go runs, ← same]
  rfl

end

/-! ### When they match -/

section
variable {s : State} (live : s.latch.fatal = false)
include live

theorem dr06_fires (iStart : s.link.state = .iStart) (expired : s.disp.curEvent = some .timerExpired) :
    Fires .dr06 (dr06 txKick) s :=
  fires_of_applies rfl live (applies_of_state rfl iStart (isEvent_iff.mpr expired))

theorem dr12_fires (aStart : s.link.state = .aStart) (expired : s.disp.curEvent = some .timerExpired) :
    Fires .dr12 (dr12 txKick) s :=
  fires_of_applies rfl live (applies_of_state rfl aStart (isEvent_iff.mpr expired))

theorem dr08_fires (iStart : s.link.state = .iStart)
    (strt : s.disp.curEvent = some .packetReceived ∧ ∃ p, s.tx.rxPkt = some (.packet p) ∧ p.cls = .strt) :
    Fires .dr08 (dr08 txKick) s :=
  fires_of_applies rfl live (applies_of_state rfl iStart (receives_of_gets strt))

theorem dr11_fires (aStart : s.link.state = .aStart)
    (strt : s.disp.curEvent = some .packetReceived ∧ ∃ p, s.tx.rxPkt = some (.packet p) ∧ p.cls = .strt) :
    Fires .dr11 (dr11 txKick) s :=
  fires_of_applies rfl live (applies_of_state rfl aStart (receives_of_gets strt))

theorem dr01_fires (halt : s.link.state = .halt) (asked : s.disp.curEvent = some .userStartup)
    (line : s.link.lineConnected = true) : Fires .dr01 (dr01 txKick) s :=
  fires_of_applies rfl live (applies_of_state rfl halt (by simp [dr01, isEvent, lineConnected, asked, line]))

theorem dr16_fires {p : Packet} (run : s.link.state = .run) (arrived : s.disp.curEvent = some .packetReceived)
    (rx : s.tx.rxPkt = some (.packet p)) (data : p.cls = .data) (gap : seqGT s.cfg.window p.num (s.link.r + 1) = true) :
    Fires .dr16 (dr16 txKick) s := by
  refine fires_of_applies rfl live (applies_of_state rfl run ?_)
  rw [scanPacket_of_received arrived rx, dr16, Bool.and_eq_true]
  exact ⟨receives_of_class data, gap⟩

section
variable (idle : s.tx.inflight = none ∧ s.tx.fifo = [])
include idle

theorem dr24_fires (run : s.link.state = .run) (snak : s.link.snak = true) : Fires .dr24 (dr24 txKick) s :=
  fires_of_applies rfl live (applies_of_state rfl run (by simp [dr24, xmitIdle_iff.mpr idle, snakSet, snak]))

theorem dr25_fires (run : s.link.state = .run) (snak : s.link.snak = false) (srep : s.link.srep = true) :
    Fires .dr25 (dr25 txKick) s :=
  fires_of_applies rfl live (applies_of_state rfl run
    (by simp [dr25, xmitIdle_iff.mpr idle, snakSet, snak, srepSet, srep]))

theorem dr28_fires (run : s.link.state = .run) (sack : s.link.sack = true) (all : s.link.t = s.link.n + 1) :
    Fires .dr28 (dr28 txKick) s :=
  fires_of_applies rfl live (applies_of_state rfl run
    (by simp [dr28, xmitIdle_iff.mpr idle, sackSet, sack, tIsNextNew_iff.mpr all]))

theorem dr05_fires {h : Handle} {rest : List Handle} (maintenance : s.link.state = .maintenance)
    (cons : s.pool.transmit = h :: rest) : Fires .dr05 (dr05 txKick) s :=
  fires_of_applies rfl live (applies_of_state rfl maintenance
    (by simp [dr05, xmitIdle_iff.mpr idle, userMessageQueued, cons]))

theorem dr26_fires (run : s.link.state = .run) (snak : s.link.snak = false) (srep : s.link.srep = false)
    (behind : tBehindNextNew s = true) : Fires .dr26 (dr26 txKick) s :=
  fires_of_applies rfl live (applies_of_state rfl run
    (by simp [dr26, xmitIdle_iff.mpr idle, snakSet, snak, srepSet, srep, behind]))

theorem dr27_fires {h : Handle} {rest : List Handle} (run : s.link.state = .run) (snak : s.link.snak = false)
    (srep : s.link.srep = false) (all : s.link.t = s.link.n + 1) (room : s.pool.ackWait.length < s.cfg.window)
    (cons : s.pool.transmit = h :: rest) : Fires .dr27 (dr27 txKick) s :=
  fires_of_applies rfl live (applies_of_state rfl run
    (by simp [dr27, xmitIdle_iff.mpr idle, snakSet, snak, srepSet, srep, tIsNextNew_iff.mpr all,
      ackWaitNotFull_iff.mpr room, userMessageQueued, cons]))

end

end

/-- Settles O48: each entry matches and stages its frame in the head of `free`, or finds no descriptor there. -/
theorem entriesThatSendControlFrames : Obligations.EntriesThatSendControlFrames := by
  intro s live f started yes idle gets c06 c08 c11 c12 c24 c25 c28
  have staged : ∀ {b h rest}, s.pool.free = h :: rest → sendControl txKick b yes = txKick (stagedControl b h rest yes) :=
    fun cons => sendControl_cons txKick _ (s := yes) cons
  refine ⟨fun h rest cons => ⟨fun c => ?dr06, fun c => ?dr08, fun c => ?dr11, fun c => ?dr12, fun c => ?dr24, fun c => ?dr25,
    fun c => ?dr28⟩, fun i listed empty room => ?exhausted, fun h rest halt asked line back pool cons => ?dr01,
    fun halt asked line back empty room => ?dr01Exhausted, fun p run arrived rx data gap flying => ?dr16⟩
  case dr06 =>
    exact sends_in_place (fl := fun _ l => l) (ft := fun _ t => t) (dr06_fires live c.1 c.2) (runActions_kick (staged cons)) c.1
  case dr08 =>
    exact sends_of_fires (fl := fun _ l => l) (ft := fun c _ => { running := true, remaining := c.pktTimeout })
      (dr08_fires live c.1 c.2) (runActions_kick (staged cons))
  case dr11 =>
    exact sends_in_place (fl := fun _ l => l) (ft := fun c _ => { running := true, remaining := c.pktTimeout })
      (dr11_fires live c.1 c.2) (runActions_kick (staged cons)) c.1
  case dr12 =>
    exact sends_in_place (fl := fun _ l => l) (ft := fun c _ => { running := true, remaining := c.pktTimeout })
      (dr12_fires live c.1 c.2) (runActions_kick (staged cons)) c.1
  case dr24 =>
    exact sends_in_place (fl := fun _ l => { l with snak := false }) (ft := fun _ t => t) (dr24_fires live c.2.1 c.1 c.2.2)
      (runActions_kick (staged cons)) c.1
  case dr25 =>
    exact sends_in_place (fl := fun _ l => { l with srep := false })
      (ft := fun c _ => { running := true, remaining := c.pktTimeout }) (dr25_fires live c.2.1 c.1 c.2.2.1 c.2.2.2)
      (runActions_kick (staged cons)) c.1
  case dr28 =>
    exact sends_in_place (fl := fun _ l => { l with sack := false }) (ft := fun _ t => t)
      (dr28_fires live c.2.1 c.1 c.2.2.1 c.2.2.2) (runActions_kick (staged cons)) c.1
  case exhausted =>
    have ends : ∀ {b} {l : List (State → Flow)},
        (sendControl txKick b yes).andThen (runActions l) = .ended (afterFatal .poolExhausted yes) := by
      intro b l
      rw [sendControl_nil txKick b (s := yes) empty room]
      rfl
    rcases listed with ⟨c, rfl⟩ | ⟨c, rfl⟩ | ⟨c, rfl⟩ | ⟨c, rfl⟩ | ⟨c, rfl⟩ | ⟨c, rfl⟩ | ⟨c, rfl⟩
    · exact exec_of_ends (dr06_fires live c.1 c.2) ends
    · exact exec_of_ends (dr08_fires live c.1 c.2) ends
    · exact exec_of_ends (dr11_fires live c.1 c.2) ends
    · exact exec_of_ends (dr12_fires live c.1 c.2) ends
    · exact exec_of_ends (dr24_fires live c.2.1 c.1 c.2.2) ends
    · exact exec_of_ends (dr25_fires live c.2.1 c.1 c.2.2.1 c.2.2.2) ends
    · exact exec_of_ends (dr28_fires live c.2.1 c.1 c.2.2.1 c.2.2.2) ends
  case dr01 =>
    have reset : resetVariables yes = variablesReset yes := resetVariables_room (s := yes) back pool
    have ran : runActions ((dr01 txKick).actions (scanPacket s.disp.curEvent s)) yes =
        (txKick (stagedControl (buildStart f) h rest (variablesReset yes))).andThen (runActions [stop]) := by
      change runActions [sendStrt txKick, stop] (resetVariables yes) = _
      rw [reset]
      exact runActions_kick (sendControl_cons txKick _ (s := variablesReset yes) cons)
    exact sends_of_fires (fl := fun _ l => l) (ft := fun _ t => { t with running := false })
      (dr01_fires live halt asked line) ran
  case dr01Exhausted =>
    obtain ⟨free, items⟩ := List.append_eq_nil_iff.mp empty
    have reset : resetVariables yes = variablesReset yes :=
      resetVariables_room (s := yes) back (by change s.pool.free.length + _ ≤ _; rw [free, items]; exact Nat.zero_le _)
    refine exec_of_ends (dr01_fires live halt asked line) ?_
    change runActions [sendStrt txKick, stop] (resetVariables yes) = _
    rw [reset, runActions, sendStrt, sendControl_nil txKick _ (s := variablesReset yes) empty room]
    rfl
  case dr16 =>
    have fires := dr16_fires live run arrived rx data gap
    refine ⟨fun enough => exec_of_runs fires ?_ run, fun short room => exec_of_ends fires ?_⟩
    · rw [scanPacket_of_received arrived rx]
      change (nakLoop txKick (p.num - s.link.r).toNat s.link.r yes).andThen (runActions []) = _
      rw [nakLoop_busy (s := yes) flying enough]
      rfl
    · rw [scanPacket_of_received arrived rx]
      change (nakLoop txKick (p.num - s.link.r).toNat s.link.r yes).andThen (runActions []) = _
      rw [nakLoop_exhausted (s := yes) rfl flying short room]
      rfl

/-- Settles O49: each entry matches and stages its frame, or finds no buffer numbered T. -/
theorem entriesThatSendMessages : Obligations.EntriesThatSendMessages := by
  intro s live inflight fifo yes
  have idle := And.intro inflight fifo
  refine ⟨fun maintenance h rest cons room => ?dr05, fun run snak srep => ⟨fun behind => ⟨fun h found => ?dr26,
    fun missing room => ?dr26Missing⟩, fun all room h rest cons => ?dr27⟩⟩
  case dr05 =>
    exact sends_in_place (fl := fun _ l => l) (ft := fun _ t => t) (dr05_fires live idle maintenance cons)
      (runActions_kick (sendMaintMessage_cons txKick (s := yes) cons room)) maintenance
  case dr26 =>
    refine sends_in_place (pre := beforeBump h yes) (fl := fun _ l => { l with t := l.t + 1, sack := false })
      (ft := fun _ t => t) (dr26_fires live idle run snak srep behind) ?_ run
    change (retransmitT txKick yes).andThen (runActions [act clearSACK]) = _
    rw [retransmitT_some txKick (s := yes) found]
    cases txKick (beforeBump h yes) <;> rfl
  case dr26Missing =>
    refine exec_of_ends (dr26_fires live idle run snak srep behind) ?_
    change (retransmitT txKick yes).andThen (runActions [act clearSACK]) = _
    rw [retransmitT_none txKick (s := yes) missing, raiseFatal_room (s := yes) _ room]
    rfl
  case dr27 =>
    exact sends_in_place (fl := fun _ l => { l with sack := false }) (ft := fun _ t => t)
      (dr27_fires live idle run snak srep all room cons)
      (runActions_kick (sendNewData_cons txKick (s := yes) cons (Nat.ne_of_lt room))) run

end Sys2Proof.Proofs.SendingEntries

/-! SUPPORT. What a frame with right CRCs, or with a wrong one, does in a state that takes it (R263, R264, R267, R268, R270,
R271, R274 to R281): what is heard, the entry that fires, and what it leaves. -/

namespace Sys2Proof.Proofs.FramesHeard

open Sys2Proof.Machine Sys2Proof.Laws Sys2Proof.Proofs.Timer Sys2Proof.Proofs.Dispatch Sys2Proof.Proofs.Crc
  Sys2Proof.Proofs.Parse Sys2Proof.Proofs.Actions Sys2Proof.Proofs.Rules Sys2Proof.Proofs.Interfaces
  Sys2Proof.Proofs.Policy Sys2Proof.Proofs.Comparator

/-! ### What is heard (R141 to R148) -/

section
variable {h : ControlHeader} {hd : DataHeader} {payload : List Byte} {dcrc : Word16}

theorem highByte_lowByte (w : Word16) : highByte w ++ lowByte w = w := Frames.wordOf_bytes w

theorem received_control {sub : Byte} {cls : PacketClass} (listed : controlClass sub = some cls) (right : controlSealed sub h) :
    received (encodeControl sub h) = some (.packet (controlPacket cls h)) := by
  have crc : crc16 0 [0x05, sub, byte2Of h.flags h.subfield, h.resp, h.num, h.addr, lowByte h.hcrc, highByte h.hcrc] = 0 :=
    headerCRC_eq_zero_iff.mpr ((Eq.symm right).trans (highByte_lowByte _).symm)
  refine received_packet ((parse_enq crc).trans ?_)
  rw [parseControl_of_some listed, flagsOf_byte2Of, low6Of_byte2Of]
  rfl

/-- The header of a data or maintenance frame whose CRC is right. -/
theorem parse_sealed {type : Byte} (listed : type = 0x81 ∨ type = 0x90) (right : dataSealed type hd) :
    parse (encodeData type hd payload dcrc) =
      parseBody (if type = 0x81 then .data else .maint) (countLow hd.count) (byte2Of hd.flags (countHigh hd.count)) hd.resp
        hd.num hd.addr (payload ++ [lowByte dcrc, highByte dcrc]) :=
  parse_message listed (headerCRC_eq_zero_iff.mpr ((Eq.symm right).trans (highByte_lowByte _).symm))

/-- The payload and its trailer are the whole of the frame's body. -/
theorem take_body (length : payload.length = hd.count.toNat) :
    (payload ++ [lowByte dcrc, highByte dcrc]).take (hd.count.toNat + 2) = payload ++ [lowByte dcrc, highByte dcrc] :=
  List.take_of_length_le (by simp [length])

theorem parse_message_right {type : Byte} {cls : PacketClass} (listed : type = 0x81 ∧ cls = .data ∨ type = 0x90 ∧ cls = .maint)
    (length : payload.length = hd.count.toNat) (right : dataSealed type hd) (crc : dcrc = crc16 0 payload) :
    parse (encodeData type hd payload dcrc) = .packet (dataPacket cls hd payload) := by
  have body : crc16 0 (payload ++ [lowByte dcrc, highByte dcrc]) = 0 :=
    (crc16_append_pair_eq_zero_iff payload _ _).mpr (crc.symm.trans (highByte_lowByte dcrc).symm)
  have own : (if type = 0x81 then PacketClass.data else .maint) = cls := by
    rcases listed with ⟨rfl, rfl⟩ | ⟨rfl, rfl⟩ <;> rfl
  rw [parse_sealed (listed.imp And.left And.left) right, own,
    parseBody_of_right (by simp [length]) (by rwa [countOf_count, take_body length]), countOf_count, flagsOf_byte2Of,
    List.take_left' length]
  rfl

theorem parse_message_wrong (length : payload.length = hd.count.toNat) (right : dataSealed 0x81 hd)
    (crc : dcrc ≠ crc16 0 payload) : parse (encodeData 0x81 hd payload dcrc) = .messageError .dataCRC := by
  rw [parse_sealed (.inl rfl) right]
  refine parseBody_of_dataCRC (.inr ?_)
  rw [countOf_count, take_body length, ne_eq, crc16_append_pair_eq_zero_iff, highByte_lowByte]
  exact Ne.symm crc

theorem parse_header_wrong (wrong : ¬ dataSealed 0x81 hd) :
    parse (encodeData 0x81 hd payload dcrc) = .messageError .headerCRC := by
  refine parse_of_headerCRC (.inl rfl) fun crc => wrong ?_
  exact ((headerCRC_eq_zero_iff.mp crc).trans (highByte_lowByte _)).symm

end

/-! ### The entries that a packet is for -/

/-- How the entries before DR22 read a packet, in the order of the table (R260 to R281). -/
theorem applies_packet (kick : State → Flow) (p : Packet) (s : State) :
    ((ruleTable kick).take 22).map (·.applies (some .packetReceived) (some (.packet p)) s) =
      [false, false, false, s.link.state == .maintenance && p.cls == .maint, p.cls == .maint,
       s.link.state == .maintenance && (xmitIdle s && userMessageQueued s), false,
       s.link.state == .iStart && p.cls == .stack, s.link.state == .iStart && p.cls == .strt,
       s.link.state == .iStart && timerNotRunning s,
       s.link.state == .aStart && (p.cls == .ack || p.cls == .data || p.cls == .stack),
       s.link.state == .aStart && p.cls == .strt, false, s.link.state == .run && lineDisconnected s,
       s.link.state == .run && p.cls == .strt, s.link.state == .run && (p.cls == .data && seqEQ p.num (inc s.link.r)),
       s.link.state == .run && (p.cls == .data && seqGT s.cfg.window p.num (inc s.link.r)), false,
       s.link.state == .run && ((p.cls == .ack || p.cls == .data) &&
         (seqLT s.cfg.window s.link.a p.resp && seqLE s.cfg.window p.resp s.link.n)),
       s.link.state == .run && (p.cls == .nak && (seqLE s.cfg.window s.link.a p.resp && seqLE s.cfg.window p.resp s.link.n)),
       s.link.state == .run && (p.cls == .rep && seqEQ p.num s.link.r),
       s.link.state == .run && (p.cls == .rep && seqNE p.num s.link.r)] := by
  simp [ruleTable, Rule.applies, dr00, dr01, dr02, dr03, dr04, dr05, dr06, dr07, dr08, dr09, dr10, dr11, dr12, dr13, dr14,
    dr15, dr16, dr17, dr18, dr19, dr20, dr21, isEvent, receives, packetHas, receiveMessageError, Bool.beq_comm]

/-! ### A firing in a resting engine (R216, R217) -/

section
variable {s t : State} {b : List Byte} {rx : RxPkt} {p : Packet} {r : Rule} {k : Nat}
  {ev : Option EventKind}

/-- A scan in which one entry fires, whose actions read no bookkeeping of the dispatcher. -/
theorem scan_entry (at_k : (ruleTable kickInDispatch)[k]? = some r)
    (before : ∀ q ∈ (ruleTable kickInDispatch).take k, q.applies ev (scanPacket ev s) s = false)
    (applies : r.applies ev (scanPacket ev s) s = true)
    (done : ∀ d : Dispatcher, runActions (r.actions (scanPacket ev s)) { s with disp := d } = .go { t with disp := d })
    (d : Dispatcher) : ∃ d' : Dispatcher, d'.pending = d.pending ∧
      scan ev { s with disp := d } = some (.go { t with link.state := r.newState, disp := d' }) := by
  obtain ⟨listed, is⟩ := List.getElem?_eq_some_iff.mp at_k
  have split : ruleTable kickInDispatch = (ruleTable kickInDispatch).take k ++ r :: (ruleTable kickInDispatch).drop (k + 1) := by
    rw [← is, ← List.drop_eq_getElem_cons listed, List.take_append_drop]
  have same := applies_disp kickInDispatch ev (scanPacket ev s) s d
  have found := scanFrom_append (pre := (ruleTable kickInDispatch).take k) (rest := (ruleTable kickInDispatch).drop (k + 1))
    (k := 0) ((same r (List.mem_of_getElem? at_k)).trans applies) fun q mem =>
      (same q (List.mem_of_mem_take mem)).trans (before q mem)
  rw [← split] at found
  have fired := fire_of_go (done { d with scanIndex := 0 + ((ruleTable kickInDispatch).take k).length })
  exact ⟨{ d with scanIndex := 0 + ((ruleTable kickInDispatch).take k).length }, rfl, found.trans (congrArg some fired)⟩

/-- An event for which one entry fires in a resting engine, and leaves the link with nothing to do. -/
theorem dispatch_entry {e : EventKind} (ready : Ready s) (at_k : (ruleTable kickInDispatch)[k]? = some r)
    (before : ∀ q ∈ (ruleTable kickInDispatch).take k, q.applies (some e) (scanPacket (some e) s) s = false)
    (applies : r.applies (some e) (scanPacket (some e) s) s = true)
    (done : ∀ d : Dispatcher, runActions (r.actions (scanPacket (some e) s)) { s with disp := d } = .go { t with disp := d })
    (rest : t.disp = s.disp) (quiescent : Quiescent { t with link.state := r.newState }) :
    dispatch e s = .go { t with link.state := r.newState } := by
  have disp : s.disp = restingDispatcher := ready.1
  obtain ⟨d, pending, fires⟩ := scan_entry at_k before applies done (firstScan e s).disp
  have dispatched := dispatch_fires ready e fires (by simp [pending, firstScan, enterDispatch, disp, restingDispatcher])
    ((quiescent_disp { t with link.state := r.newState } _).mpr quiescent)
  simp only [dispatched, ← disp, ← rest]

/-- A frame that is heard in a resting engine, and the one entry that fires for it. -/
theorem frame_fires (ready : Ready s) (off : s.cfg.corruptPermille = 0) (hears : received b = some rx)
    (at_k : (ruleTable kickInDispatch)[k]? = some r)
    (before : ∀ q ∈ (ruleTable kickInDispatch).take k,
      q.applies (some .packetReceived) (some rx) { s with tx.rxPkt := some rx } = false)
    (applies : r.applies (some .packetReceived) (some rx) { s with tx.rxPkt := some rx } = true)
    (done : ∀ d : Dispatcher, runActions (r.actions (some rx)) { s with tx.rxPkt := some rx, disp := d } =
      .go { t with disp := d })
    (rest : t.disp = s.disp) (quiescent : Quiescent { t with link.state := r.newState }) :
    exec (.onReceive b) s = .next { t with link.state := r.newState } := by
  have dispatched : dispatch .packetReceived { s with tx.rxPkt := some rx } = .go { t with link.state := r.newState } :=
    dispatch_entry (s := { s with tx.rxPkt := some rx }) ready at_k before applies done rest quiescent
  rw [exec_onReceive_some ready.2 (by rw [heard_off b off, hears]), exec_dispatch, dispatched]
  rfl

/-- The same of an entry whose new state is the one that its actions leave. -/
theorem frame_fires_in_place (ready : Ready s) (off : s.cfg.corruptPermille = 0) (hears : received b = some rx)
    (at_k : (ruleTable kickInDispatch)[k]? = some r)
    (before : ∀ q ∈ (ruleTable kickInDispatch).take k,
      q.applies (some .packetReceived) (some rx) { s with tx.rxPkt := some rx } = false)
    (applies : r.applies (some .packetReceived) (some rx) { s with tx.rxPkt := some rx } = true)
    (done : ∀ d : Dispatcher, runActions (r.actions (some rx)) { s with tx.rxPkt := some rx, disp := d } =
      .go { t with disp := d })
    (rest : t.disp = s.disp) (same : t.link.state = r.newState) (quiescent : Quiescent t) : exec (.onReceive b) s = .next t := by
  have kept : { t with link.state := r.newState } = t := by rw [← same]
  rw [frame_fires ready off hears at_k before applies done rest (by rwa [kept]), kept]

/-- What the table answers for a packet (`applies_packet`). -/
theorem packet_first
    (first : (((ruleTable kickInDispatch).take 22).map (·.applies (some .packetReceived) (some (.packet p)) s)).take (k + 1) =
        List.replicate k false ++ [true])
    (at_k : (ruleTable kickInDispatch)[k]? = some r) :
    (∀ q ∈ (ruleTable kickInDispatch).take k, q.applies (some .packetReceived) (some (.packet p)) s = false) ∧
      r.applies (some .packetReceived) (some (.packet p)) s = true := by
  rw [← List.map_take, List.take_take] at first
  have size := congrArg List.length first
  have enough : k + 1 ≤ 22 := by
    simp only [List.length_map, List.length_take, List.length_append, List.length_replicate, List.length_singleton] at size
    omega
  have last : ((ruleTable kickInDispatch).take (k + 1)) = (ruleTable kickInDispatch).take k ++ [r] := by
    rw [List.take_add_one, at_k]
    rfl
  rw [Nat.min_eq_left enough, last, List.map_append, List.map_singleton] at first
  obtain ⟨before, applies⟩ := List.append_inj' first rfl
  refine ⟨fun q mem => ?_, List.singleton_inj.mp applies⟩
  have answer := List.mem_map_of_mem (f := (·.applies (some .packetReceived) (some (.packet p)) s)) mem
  rw [before] at answer
  exact List.eq_of_mem_replicate answer

/-- The same for a packet, the table's answers being known (`applies_packet`). -/
theorem packet_fires (ready : Ready s) (off : s.cfg.corruptPermille = 0) (hears : received b = some (.packet p))
    (first : (((ruleTable kickInDispatch).take 22).map
      (·.applies (some .packetReceived) (some (.packet p)) { s with tx.rxPkt := some (.packet p) })).take (k + 1) =
        List.replicate k false ++ [true])
    (at_k : (ruleTable kickInDispatch)[k]? = some r)
    (done : ∀ d : Dispatcher, runActions (r.actions (some (.packet p))) { s with tx.rxPkt := some (.packet p), disp := d } =
      .go { t with disp := d })
    (rest : t.disp = s.disp) (quiescent : Quiescent { t with link.state := r.newState }) :
    exec (.onReceive b) s = .next { t with link.state := r.newState } := by
  obtain ⟨before, applies⟩ := packet_first first at_k
  exact frame_fires ready off hears at_k before applies done rest quiescent

/-- The same of an entry whose new state is the one that its actions leave. -/
theorem packet_fires_in_place (ready : Ready s) (off : s.cfg.corruptPermille = 0) (hears : received b = some (.packet p))
    (first : (((ruleTable kickInDispatch).take 22).map
      (·.applies (some .packetReceived) (some (.packet p)) { s with tx.rxPkt := some (.packet p) })).take (k + 1) =
        List.replicate k false ++ [true])
    (at_k : (ruleTable kickInDispatch)[k]? = some r)
    (done : ∀ d : Dispatcher, runActions (r.actions (some (.packet p))) { s with tx.rxPkt := some (.packet p), disp := d } =
      .go { t with disp := d })
    (rest : t.disp = s.disp) (same : t.link.state = r.newState) (quiescent : Quiescent t) : exec (.onReceive b) s = .next t := by
  obtain ⟨before, applies⟩ := packet_first first at_k
  exact frame_fires_in_place ready off hears at_k before applies done rest same quiescent

end

/-! ### Control frames -/

/-- Settles O51: for each frame the entry that fires, the closed form of its actions, and nothing that is left to do while a
frame is in flight. -/
theorem controlFramesTakeEffect : Obligations.ControlFramesTakeEffect := by
  intro h s ready off line flying records back w got stopped
  have busy : ∀ {t : State}, t.tx.inflight = s.tx.inflight → xmitIdle t = false := fun same => by
    simp [xmitIdle, same, flying]
  refine ⟨fun right run => ?strt, fun right iStart => ?stackI, fun right aStart => ?stackA, fun right aStart => ?ackA,
    fun right run above within => ?ack, fun right run above within => ?nak, fun right run same => ?rep,
    fun right run other => ?repOther⟩
  case strt =>
    exact packet_fires (k := 14) (r := dr14) (t := { got .strt with
        timer := stopped, latch := { s.latch with startRcvd := true }, pool := requeued (noted .startReceived s.pool) })
      ready off (received_control rfl right) (by rw [applies_packet]; simp [run, controlPacket, lineDisconnected, line]) rfl
      (fun d => dr14_actions (s := { s with tx.rxPkt := some (.packet (controlPacket .strt h)), disp := d })
        (by change s.pool.completion.length ≠ s.cfg.window + 4; omega) back) rfl (halt_quiescent rfl)
  case stackI =>
    exact packet_fires (k := 7) (r := dr07) (t := { got .stack with
        link := { s.link with sack := true, snak := false }, timer := stopped }) ready off (received_control rfl right)
      (by rw [applies_packet]; simp [iStart, controlPacket]) rfl (fun d => rfl) rfl
      (run_quiescent_of_not_idle rfl line (busy rfl))
  case stackA =>
    exact packet_fires (k := 10) (r := dr10) (t := { got .stack with timer := stopped }) ready off (received_control rfl right)
      (by rw [applies_packet]; simp [aStart, controlPacket]) rfl (fun d => rfl) rfl
      (run_quiescent_of_not_idle rfl line (busy rfl))
  case ackA =>
    exact packet_fires (k := 10) (r := dr10) (t := { got .ack with timer := stopped }) ready off (received_control rfl right)
      (by rw [applies_packet]; simp [aStart, controlPacket]) rfl (fun d => rfl) rfl
      (run_quiescent_of_not_idle rfl line (busy rfl))
  case ack =>
    change seqLT s.cfg.window s.link.a h.resp = true at above
    change seqLE s.cfg.window h.resp s.link.n = true at within
    exact packet_fires_in_place (k := 18) (r := dr18) ready off (received_control rfl right)
      (by rw [applies_packet]; simp [run, controlPacket, lineDisconnected, line, above, within]) rfl
      (fun d => dr18_actions (s := { s with tx.rxPkt := some (.packet (controlPacket .ack h)), disp := d }) records.le)
      rfl run (run_quiescent_of_not_idle run line (busy rfl))
  case nak =>
    change seqLE s.cfg.window s.link.a h.resp = true at above
    change seqLE s.cfg.window h.resp s.link.n = true at within
    exact packet_fires_in_place (k := 19) (r := dr19) ready off (received_control rfl right)
      (by rw [applies_packet]; simp [run, controlPacket, lineDisconnected, line, above, within]) rfl
      (fun d => dr19_actions (s := { s with tx.rxPkt := some (.packet (controlPacket .nak h)), disp := d }) records.le)
      rfl run (run_quiescent_of_not_idle run line (busy rfl))
  case rep =>
    exact packet_fires_in_place (k := 20) (r := dr20) ready off (received_control rfl right)
      (by rw [applies_packet]; simp [run, controlPacket, lineDisconnected, line, seqEQ_iff, same]) rfl (fun d => rfl)
      rfl run (run_quiescent_of_not_idle run line (busy rfl))
  case repOther =>
    exact packet_fires_in_place (k := 21) (r := dr21) ready off (received_control rfl right)
      (by rw [applies_packet]; simp [run, controlPacket, lineDisconnected, line, seqEQ, seqNE, other]) rfl (fun d => rfl)
      rfl run (run_quiescent_of_not_idle run line (busy rfl))

/-! ### The startup handshake -/

section
variable {s t : State} {h : Handle} {rest : List Handle}

/-- A STACK that is staged, kicked, and followed by the start of the timer: what DR08 and DR11 do. -/
theorem stack_actions (cons : s.pool.free = h :: rest)
    (kicks : kickInDispatch (stagedControl (buildStartAck s.cfg.ctlFlags) h rest s) = .go t) :
    runActions [sendStack kickInDispatch, start] s = .go (startTimer t) := by
  rw [runActions, sendStack, sendControl_cons kickInDispatch _ cons, kicks]
  rfl

theorem aStart_quiescent (aStart : s.link.state = .aStart) : Quiescent s := by
  simp [quiescent_iff, aStart]

end

/-- Settles O52: DR08 in IStart and DR11 in AStart are the same actions, and AStart does nothing of its own accord. -/
theorem strtIsAnsweredWithStack : Obligations.StrtIsAnsweredWithStack := by
  intro hd s h rest ready off right state cons staged
  have heard := received_control (h := hd) (sub := 6) rfl right
  have answered : ∀ t : State, t.disp = s.disp →
      (∀ d : Dispatcher, runActions [sendStack kickInDispatch, start]
        { s with tx.rxPkt := some (.packet (controlPacket .strt hd)), disp := d } = .go { t with disp := d }) →
      exec (.strt hd) s = .next { t with link.state := .aStart } := by
    intro t rest done
    rcases state with iStart | aStart
    · exact packet_fires (k := 8) (r := dr08 kickInDispatch) ready off heard
        (by rw [applies_packet]; simp [iStart, controlPacket]) rfl done rest (aStart_quiescent rfl)
    · exact packet_fires (k := 11) (r := dr11 kickInDispatch) ready off heard
        (by rw [applies_packet]; simp [aStart, controlPacket]) rfl done rest (aStart_quiescent rfl)
  refine ⟨fun flying => ?busy, fun as idle empty listed => ?later⟩
  case busy =>
    refine answered (startTimer (stagedControl (buildStartAck s.cfg.ctlFlags) h rest
      { s with tx.rxPkt := some (.packet (controlPacket .strt hd)) })) rfl fun d => ?_
    exact stack_actions (s := { s with tx.rxPkt := some (.packet (controlPacket .strt hd)), disp := d }) cons
      (kickInDispatch_busy (by exact flying))
  case later =>
    refine answered { startTimer (stagedControl (buildStartAck s.cfg.ctlFlags) h rest
        { s with tx.rxPkt := some (.packet (controlPacket .strt hd)) }) with
      tx.fifo := [], tx.inflight := some (controlItem (buildStartAck s.cfg.ctlFlags) h)
      env.answers := as, env.wire := s.env.wire ++ [buildStartAck s.cfg.ctlFlags] } rfl fun d => ?_
    let u : State := { s with tx.rxPkt := some (.packet (controlPacket .strt hd)), disp := d }
    have one : (stagedControl (buildStartAck s.cfg.ctlFlags) h rest u).tx.fifo =
        [controlItem (buildStartAck s.cfg.ctlFlags) h] := by simp [stagedControl, u, empty]
    exact stack_actions (s := u) cons (kickInDispatch_later (s := stagedControl (buildStartAck s.cfg.ctlFlags) h rest u) idle one
      (offerFrame_listed (s := stagedControl (buildStartAck s.cfg.ctlFlags) h rest u) off listed))

/-! ### Data and maintenance frames -/

section
variable {s : State} {b : List Byte} {r : BitVec 6}

/-- The NAKs of a gap are staged one by one while a frame is in flight, whatever the kick is of (R250). -/
theorem nakLoop_flying {kick : State → Flow} (busy : ∀ t : State, t.tx.inflight ≠ none → kick t = .go t) :
    ∀ {n : Nat} {k : Byte} {s : State}, s.tx.inflight ≠ none → n ≤ s.pool.free.length →
      nakLoop kick n k s = .go (stagedControls (gapNaks s.cfg k n) s)
  | 0, k, s, _, _ => congrArg Flow.go (stagedControls_nil s).symm
  | n + 1, k, s, flying, enough => by
    obtain ⟨h, rest, cons⟩ := List.exists_cons_of_length_pos (Nat.lt_of_lt_of_le (Nat.succ_pos n) enough)
    rw [cons, List.length_cons] at enough
    rw [nakLoop, sendControl_cons kick _ cons, busy (stagedControl _ h rest s) flying, gapNaks_succ, stagedControls_cons cons]
    exact nakLoop_flying busy flying (Nat.le_of_succ_le_succ enough)

/-- An error in Run while a frame is in flight (R277). -/
theorem error_fires (ready : Ready s) (off : s.cfg.corruptPermille = 0) (hears : received b = some (.error r))
    (run : s.link.state = .run) (line : s.link.lineConnected = true) (flying : s.tx.inflight ≠ none) :
    exec (.onReceive b) s = .next { s with
      tx.rxPkt := some (.error r), link := { s.link with snak := true, sack := false, nakReason := r } } := by
  have busy : xmitIdle { s with tx.rxPkt := some (.error r) } = false := by simp [xmitIdle, flying]
  exact frame_fires_in_place (k := 17) (r := dr17) ready off hears rfl
    (by simp [ruleTable, Rule.applies, dr00, dr01, dr02, dr03, dr04, dr05, dr06, dr07, dr08, dr09, dr10, dr11, dr12, dr13,
      dr14, dr15, dr16, isEvent, receives, packetHas, lineDisconnected, run, line])
    (applies_of_state rfl run rfl) (fun _ => rfl) rfl run (run_quiescent_of_not_idle run line busy)

end

/-- Settles O53: the same for frames with a payload, with right and with wrong CRCs. -/
theorem messageFramesTakeEffect : Obligations.MessageFramesTakeEffect := by
  intro hd payload dcrc s ready off line flying records length w got pd pm
  have busy : ∀ {t : State}, t.tx.inflight = s.tx.inflight → xmitIdle t = false := fun same => by
    simp [xmitIdle, same, flying]
  have room : s.pool.completion.length ≠ s.cfg.window + 4 := by omega
  refine ⟨fun right crc run => ?data, fun wrong run => ?header, fun right wrong run => ?body, fun right crc => ?maint⟩
  case header =>
    exact error_fires ready off (received_headerCRC (parse_header_wrong wrong)) run line flying
  case body =>
    exact error_fires ready off (received_dataCRC (parse_message_wrong length right wrong)) run line flying
  case data =>
    have heard : received (encodeData 0x81 hd payload dcrc) = some (.packet pd) :=
      received_packet (parse_message_right (.inl ⟨rfl, rfl⟩) length right crc)
    have accepted : hd.num = s.link.r + 1 → ∀ t : State, t.disp = s.disp → t.link.state = .run →
        t.link.lineConnected = true → t.tx.inflight = s.tx.inflight →
        (∀ d : Dispatcher, giveBufferToUser pd { got (.packet pd) with disp := d } = { t with disp := d }) →
        exec (.data hd payload dcrc) s = .next t := fun next t rest run' line' same given =>
      packet_fires_in_place (k := 15) (r := dr15) ready off heard
        (by rw [applies_packet]; simp [run, pd, dataPacket, lineDisconnected, line, next, inc, seqEQ]) rfl
        (fun d => congrArg Flow.go (given d)) rest run' (run_quiescent_of_not_idle run' line' (busy same))
    refine ⟨fun next empty => ?none, fun next h rest cons => ⟨fun short => ?short, fun fits => ?fits⟩, fun gap enough => ?gap,
      fun old above within => ?old⟩
    case none =>
      exact accepted next _ rfl run line rfl fun d => giveBufferToUser_nil (s := { got (.packet pd) with disp := d }) empty
    case short =>
      exact accepted next _ rfl run line rfl fun d =>
        giveBufferToUser_short (s := { got (.packet pd) with disp := d }) cons short
    case fits =>
      exact accepted next _ rfl run line rfl fun d =>
        giveBufferToUser_fits (s := { got (.packet pd) with disp := d }) cons fits room
    case gap =>
      have beyond : seqGT s.cfg.window hd.num (inc s.link.r) = true := gap
      have other : hd.num ≠ inc s.link.r := fun same => by simp [seqGT, same] at beyond
      exact packet_fires_in_place (k := 16) (r := dr16 kickInDispatch) ready off heard
        (by rw [applies_packet]; simp [run, pd, dataPacket, lineDisconnected, line, beyond, other, seqEQ]) rfl
        (fun d => congrArg (·.andThen (runActions []))
          (nakLoop_flying (fun _ => kickInDispatch_busy) (s := { got (.packet pd) with disp := d }) flying enough)) rfl run
        (run_quiescent_of_not_idle run line (busy rfl))
    case old =>
      have behind : seqCmp hd.num (inc s.link.r) s.cfg.window = -1 := seqLT_iff.mp old
      have other : hd.num ≠ inc s.link.r := fun same => by simp [same] at behind
      change seqLT s.cfg.window s.link.a hd.resp = true at above
      change seqLE s.cfg.window hd.resp s.link.n = true at within
      exact packet_fires_in_place (k := 18) (r := dr18) ready off heard
        (by rw [applies_packet]
            simp [run, pd, dataPacket, lineDisconnected, line, other, seqEQ, seqGT, behind, above, within]) rfl
        (fun d => dr18_actions (s := { got (.packet pd) with disp := d }) records.le) rfl run
        (run_quiescent_of_not_idle run line (busy rfl))
  case maint =>
    have heard : received (encodeData 0x90 hd payload dcrc) = some (.packet pm) :=
      received_packet (parse_message_right (.inr ⟨rfl, rfl⟩) length right crc)
    have handed : s.link.state = .maintenance → ∀ t : State, t.disp = s.disp → t.link.state = .maintenance →
        t.tx.inflight = s.tx.inflight →
        (∀ d : Dispatcher, deliverMaintToHost pm { got (.packet pm) with disp := d } = { t with disp := d }) →
        exec (.maint hd payload dcrc) s = .next t := fun maintenance t rest still same given =>
      packet_fires_in_place (k := 3) (r := dr03) ready off heard
        (by rw [applies_packet]; simp [maintenance, pm, dataPacket]) rfl (fun d => congrArg Flow.go (given d)) rest still
        (maintenance_quiescent still (.inl (same ▸ flying)))
    refine ⟨fun other => ?enter, fun maintenance => ⟨fun empty => ?none, fun h rest cons => ⟨fun short => ?short,
      fun fits => ?fits⟩⟩⟩
    case enter =>
      exact packet_fires (k := 4) (r := dr04) (t := { got (.packet pm) with
          timer := { s.timer with running := false }, pool := noted .maintenanceReceived s.pool }) ready off heard
        (by rw [applies_packet]; simp [other, pm, dataPacket]) rfl
        (fun d => dr04_actions (s := { got (.packet pm) with disp := d }) room) rfl
        (maintenance_quiescent rfl (.inl flying))
    case none =>
      exact handed maintenance _ rfl maintenance rfl fun d =>
        deliverMaintToHost_nil (s := { got (.packet pm) with disp := d }) empty
    case short =>
      exact handed maintenance _ rfl maintenance rfl fun d =>
        deliverMaintToHost_short (s := { got (.packet pm) with disp := d }) cons short
    case fits =>
      exact handed maintenance _ rfl maintenance rfl fun d =>
        deliverMaintToHost_fits (s := { got (.packet pm) with disp := d }) cons fits room

end Sys2Proof.Proofs.FramesHeard

/-! SUPPORT. Two calls of the host that stage a frame: a message in Run with the transmitter idle (R302, R287), and
`user_startup`, whose dispatch fires twice (R261, R269). -/

namespace Sys2Proof.Proofs.HostCallsSend

open Sys2Proof.Machine Sys2Proof.Laws Sys2Proof.Proofs.Timer Sys2Proof.Proofs.Dispatch Sys2Proof.Proofs.Actions
  Sys2Proof.Proofs.Rules Sys2Proof.Proofs.Interfaces Sys2Proof.Proofs.Conditions Sys2Proof.Proofs.FramesHeard

section
variable {s t : State} {r q : Rule} {k j : Nat} {e : EventKind}

/-! ### A dispatch that fires twice (R216) -/

/-- An event for which one entry fires, and then, with no event, another, which leaves the link with nothing to do. -/
theorem dispatch_twice {s1 s2 : State} {d : Dispatcher} (ready : Ready s)
    (first : scan (some e) (firstScan e s) = some (.go s1)) (nothing : s1.disp.pending = noEvents)
    (second : scan none { s1 with disp.curEvent := none } = some (.go { s2 with disp := d })) (still : d.pending = noEvents)
    (quiescent : Quiescent s2) : dispatch e s = .go { s2 with disp := restingDispatcher } := by
  obtain ⟨n, hn⟩ : ∃ n, budget s = n + 3 := ⟨budget s - 3, by have := budget_large s; omega⟩
  have empty : ∀ {m : EventMask}, m = noEvents → pendingFirst m = none := fun is => (pendingFirst_eq_none_iff _).mpr is
  have quiet : scan none { s2 with disp := { d with curEvent := none } } = none :=
    (quiescent_scan _).mp ((quiescent_disp s2 _).mpr quiescent)
  have one : dispatchLoop (n + 3) (some e) (enterDispatch s) = dispatchLoop (n + 2) none s1 := by
    have fires : scan (some e) { enterDispatch s with disp.curEvent := some e } = some (.go s1) := first
    rw [dispatchLoop]
    simp only [fires, empty nothing]
  have two : dispatchLoop (n + 2) none s1 = dispatchLoop (n + 1) none { s2 with disp := d } := by
    rw [dispatchLoop]
    simp only [second, empty still]
  have three : dispatchLoop (n + 1) none { s2 with disp := d } = .go { s2 with disp := restingDispatcher } := by
    rw [dispatchLoop]
    dsimp only
    rw [quiet]
    dsimp only
    rw [empty still, leaveDispatch, restingDispatcher, still]
  rw [ready_guard ready, hn, one, two, three]

/-- The same, each firing by the entry that it is of. -/
theorem dispatch_entry_twice {u v : State} (ready : Ready s) (at_k : (ruleTable kickInDispatch)[k]? = some r)
    (before : ∀ x ∈ (ruleTable kickInDispatch).take k, x.applies (some e) (scanPacket (some e) s) s = false)
    (applies : r.applies (some e) (scanPacket (some e) s) s = true)
    (done : ∀ d : Dispatcher, runActions (r.actions (scanPacket (some e) s)) { s with disp := d } = .go { u with disp := d })
    (set : v = { u with link.state := r.newState })
    (at_j : (ruleTable kickInDispatch)[j]? = some q)
    (before' : ∀ x ∈ (ruleTable kickInDispatch).take j, x.applies none none v = false) (applies' : q.applies none none v = true)
    (done' : ∀ d : Dispatcher, runActions (q.actions none) { v with disp := d } = .go { t with disp := d })
    (rest : t.disp = s.disp) (quiescent : Quiescent { t with link.state := q.newState }) :
    dispatch e s = .go { t with link.state := q.newState } := by
  subst set
  have disp : s.disp = restingDispatcher := ready.1
  obtain ⟨d, pending, fires⟩ := scan_entry at_k before applies done (firstScan e s).disp
  have nothing : d.pending = noEvents := by simp [pending, firstScan, enterDispatch, disp, restingDispatcher]
  obtain ⟨d', pending', fires'⟩ := scan_entry (ev := none) (s := { u with link.state := r.newState }) at_j before' applies' done'
    { d with curEvent := none }
  have dispatched := dispatch_twice ready fires nothing fires' (pending'.trans nothing) quiescent
  simp only [dispatched, ← disp, ← rest]

end

/-! ### A message in Run -/

section
variable {s : State} {h : Handle}

/-- After the only buffer of `transmit` was numbered and its frame taken by the transport (R245, R287, R311). -/
def sentAtOnce (h : Handle) (num : Byte) (frame : List Byte) (as : List SendAnswer) (s : State) : State :=
  { s with
    link := { s.link with n := num, t := num + 1, sack := false }
    pool := { s.pool with
      transmit := [], ackWait := s.pool.ackWait ++ [h], desc := s.pool.desc.modify h fun d => { d with seq := num } }
    tx.fifo := [], tx.inflight := some { bytes := frame, kind := .data, num := num, desc := none }
    env.answers := as, env.wire := s.env.wire ++ [frame] }

/-- What DR27 does in a dispatch where the transport takes the frame (R287). -/
theorem dr27_actions {as : List SendAnswer} (queued : s.pool.transmit = [h]) (room : s.pool.ackWait.length < s.cfg.window)
    (idle : s.tx.inflight = none) (fifo : s.tx.fifo = []) (off : s.cfg.corruptPermille = 0)
    (answers : s.env.answers = .acceptedLater :: as) (num : Byte) (numbered : s.link.n + 1 = num) (frame : List Byte)
    (built : buildData (messageBytes s h) (descOf s h).length s.cfg.dataFlags num s.link.r = frame) :
    runActions ((dr27 kickInDispatch).actions none) s = .go (sentAtOnce h num frame as s) := by
  subst numbered built
  have staged := sendNewData_cons kickInDispatch queued (Nat.ne_of_lt room)
  have one : (stagedData h [] s).tx.fifo = [{
      bytes := buildData (messageBytes s h) (descOf s h).length s.cfg.dataFlags (s.link.n + 1) s.link.r
      kind := .data, num := s.link.n + 1, desc := none }] := by simp [stagedData, fifo]
  have kicks := kickInDispatch_later (s := stagedData h [] s) idle one
    (offerFrame_listed (s := stagedData h [] s) off answers)
  have ran : runActions ((dr27 kickInDispatch).actions none) s =
      (kickInDispatch (stagedData h [] s)).andThen (runActions [act clearSACK]) := by rw [← staged]; rfl
  rw [ran, kicks]
  rfl

end

/-- Settles O26: DR27 is the entry of the dispatch, and the frame leaves, so that no level entry of Run is left. -/
theorem runSendsANewMessageAtOnce : Obligations.RunSendsANewMessageAtOnce := by
  intro s address length eom h rest as ready run line snak srep all accepts short cons listed empty window room idle fifo off
    answers num frame
  obtain ⟨atRest, live⟩ := ready
  let u : State := handedIn .transmit (described .transmitData address length eom) h rest (answer .none s)
  have queued : u.pool.transmit = [h] := by simp [u, handedIn, setHandles, handles, empty, answer]
  have written : descOf u h = described .transmitData address length eom (descOf s h) := by
    simp only [u, descOf, handedIn, setHandles, ← touch_singleton, touch_getD]
    exact if_pos ⟨listed, List.mem_singleton_self h⟩
  have built : buildData (messageBytes u h) (descOf u h).length u.cfg.dataFlags num u.link.r = frame := by
    have short : (BitVec.ofNat 14 length).toNat = length := by
      rw [BitVec.toNat_ofNat]
      omega
    simp only [messageBytes, written, described, short]
    rfl
  have behind : tBehindNextNew u = false := by
    have all : u.link.t = inc u.link.n := all
    simp [tBehindNextNew, all, seqLT]
  have before : ∀ q ∈ (ruleTable kickInDispatch).take 27, q.applies (some .hostQueueChange) none u = false := by
    have run : u.link.state = .run := run
    have line : u.link.lineConnected = true := line
    have snak : u.link.snak = false := snak
    have srep : u.link.srep = false := srep
    simp [ruleTable, Rule.applies, dr00, dr01, dr02, dr03, dr04, dr05, dr06, dr07, dr08, dr09, dr10, dr11, dr12, dr13, dr14,
      dr15, dr16, dr17, dr18, dr19, dr20, dr21, dr22, dr23, dr24, dr25, dr26, isEvent, receives, packetHas,
      receiveMessageError, lineDisconnected, dataMessageSent, snakSet, srepSet, run, line, snak, srep, behind]
  have holds : (dr27 kickInDispatch).holds (some .hostQueueChange) none u = true := by
    have all : tIsNextNew u = true := tIsNextNew_iff.mpr all
    have free : xmitIdle u = true := xmitIdle_iff.mpr ⟨idle, fifo⟩
    have below : ackWaitNotFull u = true := ackWaitNotFull_iff.mpr room
    have snak : u.link.snak = false := snak
    have srep : u.link.srep = false := srep
    simp [dr27, userMessageQueued, queued, all, free, below, snakSet, srepSet, snak, srep]
  have dispatched : dispatch .hostQueueChange u = .go { sentAtOnce h num frame as u with link.state := .run } :=
    dispatch_entry (k := 27) (r := dr27 kickInDispatch) (s := u) (t := sentAtOnce h num frame as u) ⟨atRest, live⟩ rfl before
      (applies_of_state rfl run holds)
      (fun d => dr27_actions (s := { u with disp := d }) queued room idle fifo off answers num rfl frame built) rfl
      (run_quiescent_of_not_idle rfl line rfl)
  have call : exec (.enqueueTransmitBuffer address length eom) s = (enqueueTransmitBuffer address length eom s).outcome := rfl
  rw [call, enqueueTransmitBuffer_open live accepts short,
    acceptBuffer_cons (s := answer .none s) cons (by decide) (by simp [handles, answer, empty]; omega), dispatched]
  simp only [Flow.andThen, Flow.outcome, sentAtOnce, u, handedIn, setHandles, handles, answer, empty, fifo, run,
    List.modify_modify_eq]
  rfl

/-! ### Startup -/

section
variable {s : State}

/-- Nothing but DR01 is for a request of startup. -/
theorem userStartup_lost (ready : Ready s) (quiescent : Quiescent s) (other : s.link.state ≠ .halt ∨ s.link.lineConnected = false) :
    dispatch .userStartup s = .go s := by
  refine dispatch_drops ready _ fun r mem => ?_
  obtain ⟨idle, timer, line⟩ := quiescent_iff_entries.mp quiescent
  have scanned : scanPacket (some .userStartup) s = none := rfl
  have startup : (dr01 kickInDispatch).applies (some .userStartup) none s = false := by
    rcases other with away | down
    · simp [Rule.applies, dr01, Ne.symm away]
    · simp [Rule.applies, dr01, lineConnected, down]
  have quiet : ∀ r ∈ eventEntries kickInDispatch, r.applies (some .userStartup) none s = false := by
    simp only [eventEntries, List.forall_mem_cons, startup, true_and]
    simp [Rule.applies, dr00, dr02, dr03, dr04, dr06, dr07, dr08, dr10, dr11, dr12, dr14, dr15, dr16,
      dr17, dr18, dr19, dr20, dr21, dr22, isEvent, receives, packetHas, receiveMessageError]
  rw [scanned]
  rcases mem_ruleTable_iff.mp mem with sends | rfl | rfl | rfl | event
  · rw [idleEntries_applies sends, idle r sends]
  · exact timer
  · exact line
  · rw [← Bool.not_eq_true, dr23_applies]
    exact fun fires => nomatch fires.2.1
  · exact quiet r event

/-- What DR01 does in a dispatch where its queues have room, up to the new state (R261). -/
theorem dr01_actions {h : Handle} {rest : List Handle} {v : State} {pkt : Option RxPkt}
    (back : s.pool.ackWait.length + s.pool.transmit.length ≤ s.cfg.window)
    (room : s.pool.free.length + (s.tx.fifo.filterMap (·.desc)).length ≤ s.cfg.window)
    (cons : s.pool.free ++ s.tx.fifo.filterMap (·.desc) = h :: rest)
    (kicks : kickInDispatch (stagedControl (buildStart s.cfg.ctlFlags) h rest (variablesReset s)) = .go v) :
    runActions ((dr01 kickInDispatch).actions pkt) s = .go (stopTimer v) := by
  have staged := sendControl_cons kickInDispatch (buildStart s.cfg.ctlFlags) (s := variablesReset s) cons
  have ran : runActions ((dr01 kickInDispatch).actions pkt) s =
      (sendStrt kickInDispatch (resetVariables s)).andThen (runActions [stop]) := rfl
  rw [ran, resetVariables_room back room, sendStrt, show (variablesReset s).cfg = s.cfg from rfl, staged, kicks]
  rfl

/-- The request in Halt with the line up: DR01 fires, and, the timer being stopped, DR09 after it. -/
theorem userStartup_starts {h : Handle} {rest : List Handle} {v : State} (ready : Ready s) (halt : s.link.state = .halt)
    (line : s.link.lineConnected = true) (back : s.pool.ackWait.length + s.pool.transmit.length ≤ s.cfg.window)
    (room : s.pool.free.length + (s.tx.fifo.filterMap (·.desc)).length ≤ s.cfg.window)
    (cons : s.pool.free ++ s.tx.fifo.filterMap (·.desc) = h :: rest) (disp : v.disp = s.disp)
    (kicks : ∀ d : Dispatcher, kickInDispatch (stagedControl (buildStart s.cfg.ctlFlags) h rest
      (variablesReset { s with disp := d })) = .go { v with disp := d }) :
    dispatch .userStartup s = .go { startTimer v with link.state := .iStart } := by
  let v1 : State := { stopTimer v with link.state := .iStart }
  have before : ∀ q ∈ (ruleTable kickInDispatch).take 9, q.applies none none v1 = false := by
    simp [ruleTable, Rule.applies, dr00, dr01, dr02, dr03, dr04, dr05, dr06, dr07, dr08, isEvent, receives, packetHas, v1]
  exact dispatch_entry_twice (k := 1) (r := dr01 kickInDispatch) (u := stopTimer v) (v := v1) (j := 9) (q := dr09)
    (t := startTimer v1) ready rfl (by simp [ruleTable, Rule.applies, dr00, isEvent])
    (applies_of_state rfl halt (by simp [dr01, isEvent, lineConnected, line]))
    (fun d => dr01_actions (s := { s with disp := d }) back room cons (kicks d)) rfl rfl before
    (dr09_applies.mpr ⟨rfl, rfl⟩) (fun _ => rfl) disp (by simp [quiescent_iff, startTimer, dr09])

end

/-- Settles O30: the request is lost where DR01 does not match; else its two firings start the link. -/
theorem userStartupStartsTheLink : Obligations.UserStartupStartsTheLink := by
  intro s ready
  have call : exec .userStartup s = (performed (dispatch .userStartup (answer .none s))).outcome :=
    congrArg Flow.outcome (if_neg (by simp [ready.2]))
  constructor
  · intro quiescent other
    rw [call, userStartup_lost (s := answer .none s) ready (quiescent_receive quiescent rfl rfl rfl rfl rfl rfl) other]
    rfl
  intro h rest halt line back room cons frame started
  constructor
  · intro flying
    rw [call, userStartup_starts (s := answer .none s) (v := stagedControl frame h rest (variablesReset (answer .none s))) ready
      halt line back room cons rfl fun d => kickInDispatch_busy (by exact flying)]
    rfl
  · intro as idle off listed
    have kicks : ∀ d : Dispatcher, kickInDispatch (stagedControl frame h rest (variablesReset { answer .none s with disp := d })) =
        .go { stagedControl frame h rest (variablesReset (answer .none s)) with
          tx.fifo := [], tx.inflight := some (controlItem frame h)
          env.answers := as, env.wire := s.env.wire ++ [frame], disp := d } := fun d =>
      kickInDispatch_later (s := stagedControl frame h rest (variablesReset { answer .none s with disp := d })) idle rfl
        (offerFrame_listed (s := stagedControl frame h rest (variablesReset { answer .none s with disp := d })) off listed)
    rw [call, userStartup_starts (s := answer .none s) (v := { stagedControl frame h rest (variablesReset (answer .none s)) with
      tx.fifo := [], tx.inflight := some (controlItem frame h), env.answers := as, env.wire := s.env.wire ++ [frame] }) ready
      halt line back room cons rfl kicks]
    rfl

end Sys2Proof.Proofs.HostCallsSend
